-- ==== Sys2Proof/Word.lean ====
section
/-! DEFINITION. The word types of the unit and its fixed numbers (00_scope.md R1, R9; section 4).

Every storage element of the unit is one 32-bit word (20_memory.md R70), except frequency words, which are 48 bits
wide (R9).  There are no bytes anywhere in the unit, so `Word` is the model's smallest addressable unit. -/

namespace Sys2Proof

/-- A 32-bit word: a q24 value, an offset word, a phase word or an index word (R1, R6, R7, R10). -/
abbrev Word := BitVec 32

/-- A frequency word: signed, 48 bits, in units of 2^-32 turns per hop (R9). -/
abbrev Freq := BitVec 48

/-- `ONE` of R1: 1.0 in q24. -/
abbrev one : Int := 16777216

/-- `ENVFLOOR` of 00_scope.md section 4: -5.0 in q24, fixed. -/
abbrev envFloor : Int := -83886080

/-- The largest q24 word, 2^31 - 1 (R1). -/
abbrev maxQ : Int := 2147483647

/-- The smallest q24 word, -2^31 (R1). -/
abbrev minQ : Int := -2147483648

/-- Biquad banks, all-pass banks and delay lines: fixed by the parameter map (00_scope.md section 4). -/
abbrev nbq : Nat := 16
abbrev nap : Nat := 8
abbrev ndl : Nat := 32

end Sys2Proof
end

