-- ==== Sys2Proof/Config.lean ====
section
/-! DEFINITION. What an implementation fixes (00_scope.md section 4) and the values the spec leaves free.

The implementation parameters are the fields of `Config`.  The configuration functions (R12 to R17) and the values
after reset that the spec leaves unspecified (R281) are OPAQUE constants without a body: nothing in Lean can compute
them, so whatever is proved holds whatever they are.  The anchor properties the spec does state for the functions are
put around them in Machine/Functions.lean. -/

namespace Sys2Proof

/-- `HOST_ENDIAN` of 00_scope.md section 4: the byte-lane order of a bridge to a byte-addressed bus (R71).
No rule of the unit depends on it. -/
inductive Endian where
  | little
  | big
deriving DecidableEq, Repr

/-- The implementation parameters of 00_scope.md section 4 that the spec leaves open (92 D13, D38).  `W`, `FRAC`,
`NBQ`, `NAP`, `NDL` and `ENVFLOOR` are fixed and stand in Word.lean. -/
structure Config where
  /-- `BLOCK_MAX`: most samples per channel in a block command. -/
  blockMax : Nat
  /-- `NCH_MAX`: channels of XBUF, YBUF and the pan vector. -/
  nchMax : Nat
  /-- `DM_WORDS`: words of delay memory. -/
  dmWords : Nat
  /-- `DL_SLACK`: the slack of `nextPowerOf2(requiredSamples + slack)`. -/
  dlSlack : Nat
  /-- `PV_N`: FFT size. -/
  pvN : Nat
  /-- `PV_OSAMP`: oversampling. -/
  pvOsamp : Nat
  /-- `RMS_WIN`: length of the RMS window. -/
  rmsWin : Nat
  /-- `HOST_ENDIAN`. -/
  hostEndian : Endian
deriving DecidableEq, Repr

/-- `n` is a power of two (1 included). -/
abbrev isPow2 (n : Nat) : Prop := n = 2 ^ Nat.log2 n

/-- The constraints of 00_scope.md section 4: "an instance that violates one is not an instance of this hardware". -/
def Config.ok (c : Config) : Bool :=
  decide (1 ≤ c.blockMax ∧ c.blockMax ≤ 2047 ∧ 1 ≤ c.nchMax ∧ c.nchMax ≤ 16 ∧
    ndl ≤ c.dmWords ∧ c.dmWords ≤ 2 ^ 31 ∧
    isPow2 c.pvN ∧ 8 ≤ c.pvN ∧ c.pvN ≤ 2 ^ 15 ∧
    isPow2 c.pvOsamp ∧ 4 ≤ c.pvOsamp ∧ c.pvOsamp ≤ c.pvN / 2 ∧
    isPow2 c.rmsWin ∧ 1 ≤ c.rmsWin ∧ c.rmsWin ≤ 4096)

/-- `PV_HOP = PV_N / PV_OSAMP`. -/
def Config.hop (c : Config) : Nat := c.pvN / c.pvOsamp

/-- `PV_L = PV_N - PV_HOP`, the fill counter's start value. -/
def Config.pvL (c : Config) : Nat := c.pvN - c.hop

/-- `H = PV_N / 2`, the highest bin (44_phase_vocoder.md, introduction). -/
def Config.half (c : Config) : Nat := c.pvN / 2

/-- `FIFO_LATENCY = PV_N` (44_phase_vocoder.md R190). -/
def Config.fifoLatency (c : Config) : Nat := c.pvN

/-- `E = 2^32 / PV_OSAMP`, a bin's nominal phase advance per hop (R9). -/
def Config.binStep (c : Config) : Nat := 2 ^ 32 / c.pvOsamp

/-- The reference instance: every default of 00_scope.md section 4 (92 D13). -/
def Config.reference : Config where
  blockMax := 1024
  nchMax := 16
  dmWords := 1048576
  dlSlack := 1
  pvN := 1024
  pvOsamp := 4
  rmsWin := 256
  hostEndian := .little

/-- The part of COST the anchors of R12 leave open (92 D6). -/
opaque Config.costRaw : Word → Word

/-- The part of SINT the anchors of R13 leave open (92 D6). -/
opaque Config.sintRaw : Word → Word

/-- The part of MAGQ the anchors of R14 leave open; arguments `re`, `im` (92 D6). -/
opaque Config.magqRaw : Word → Word → Word

/-- The part of ATAN2T the anchors of R15 leave open; arguments `im`, `re` (92 D6). -/
opaque Config.atan2tRaw : Word → Word → Word

/-- The part of LOG10Q the anchors of R16 leave open (92 D6). -/
opaque Config.log10qRaw : Word → Word

/-- The part of EXP10Q the anchors of R17 leave open (92 D6). -/
opaque Config.exp10qRaw : Word → Word

/-- The word a memory word holds that is unspecified after reset (R281): one free value for each window space (0 DM,
1 XBUF, 2 YBUF), each reset (counted) and each index: "each word independently, not preserved across resets". -/
opaque Config.unspecified : Nat → Nat → Nat → Word

/-- CAP3 of an instance whose DL_SLACK does not fit the 16 bits R24 leaves it; arguments RMS_WIN and DL_SLACK. -/
opaque Config.wideCap3 : Nat → Nat → Word

/-- Has the command in progress already set SAT when FLAGS is read for the n-th time while BUSY (R81: "bits may be set
by the running command at any moment")? -/
opaque Config.satEarly : Nat → Bool

end Sys2Proof
end

