-- ==== Sys2Proof/Machine/Arith.lean ====
section
/-! DEFINITION. The arithmetic primitives of 00_scope.md section 5.3 (R2 to R8, R11) and the loop of the pseudocode.

Values are computed exactly on `Int` and narrowed explicitly at the end (30_encoding.md R115). -/

namespace Sys2Proof.Machine

/-- `rnd_K` of R2: division by 2^K rounded to nearest, ties toward +infinity. -/
def rnd (k : Nat) (v : Int) : Int := (v + (2 ^ (k - 1) : Nat)) / (2 ^ k : Nat)

/-- The value `sat32(v)` of R3, as a number. -/
def clamp32 (v : Int) : Int := max minQ (min maxQ v)

/-- The word `sat32(v)` of R3. -/
def sat32 (v : Int) : Word := BitVec.ofInt 32 (clamp32 v)

/-- Does `sat32(v)` clip, and so set FLAGS.SAT (R3)? -/
def clips (v : Int) : Bool := decide (v < minQ) || decide (maxQ < v)

/-- `|v|` of 00_scope.md section 5.1.  `abs32(v)` of R4 is `sat32 (absInt v)`. -/
def absInt (v : Int) : Int := if v < 0 then -v else v

/-- `wrap32s` of R5, as a number in [-2^31, 2^31). -/
def wrap32s (v : Int) : Int := (v + 2147483648) % 4294967296 - 2147483648

/-- The word whose bits are `v mod 2^32` (R5: `wrap32u` read unsigned, `wrap32s` read signed). -/
def wrapWord (v : Int) : Word := BitVec.ofInt 32 v

/-- `unwrap` of R8: the representative in (-2^31, 2^31]. -/
def unwrap (v : Int) : Int := if wrap32s v = -2147483648 then 2147483648 else wrap32s v

/-- `nextpow2` of R11: the least power of two at or above `v`, for `v` at least 1. -/
def nextPow2 (v : Nat) : Nat := if v ≤ 1 then 1 else 2 ^ (Nat.log2 (v - 1) + 1)

/-- The loop `for k in 0 .. n-1` of the pseudocode, in ascending order. -/
def iter {α : Type} (n : Nat) (f : Nat → α → α) (a : α) : α :=
  match n with
  | 0 => a
  | n + 1 => f n (iter n f a)

/-- The sum of `f d` over `d` in `0 .. n-1`. -/
def sumUpTo (n : Nat) (f : Nat → Nat) : Nat := iter n (fun d acc => acc + f d) 0

end Sys2Proof.Machine
end

