-- ==== Sys2Proof/Machine/Functions.lean ====
section
/-! DEFINITION. The configuration functions (00_scope.md R12 to R17) and the tables defined from them (R18).

Each function is an opaque function of Config.lean with the anchor properties its rule states put around it, and no
more: at an anchor it has the anchor's value, elsewhere it is the opaque function, brought into the range, symmetry or
order the rule states.  Every function that meets a rule's anchors is one of these, and each of these meets them. -/

namespace Sys2Proof.Machine

/-- `v` brought into `[lo, hi]`. -/
def clampTo (lo hi v : Int) : Int := max lo (min hi v)

/-- COST at the phase `q` in [0, 2^31) (R12: the anchors at 0 and a quarter turn, and |COST| at most ONE). -/
def costAt (q : Nat) : Int :=
  if q = 0 then one
  else if q = 2 ^ 30 then 0
  else clampTo (-one) one (Config.costRaw (BitVec.ofNat 32 q)).toInt

/-- `COST(p)` (R12): even, and -ONE at half a turn. -/
def cost (p : Word) : Int := if p.toInt = minQ then -one else costAt p.toInt.natAbs

/-- SINT at the phase `q` in [0, 2^31) (R13). -/
def sintAt (q : Nat) : Int :=
  if q = 0 then 0
  else if q = 2 ^ 30 then one
  else clampTo (-one) one (Config.sintRaw (BitVec.ofNat 32 q)).toInt

/-- `SINT(p)` (R13): odd, and 0 at half a turn. -/
def sint (p : Word) : Int :=
  if p.toInt = minQ then 0
  else if p.toInt < 0 then -sintAt p.toInt.natAbs
  else sintAt p.toInt.natAbs

/-- `MAGQ(re, im)` (R14): in [0, 2^31 - 1], and the absolute value on either axis. -/
def magq (re im : Word) : Word :=
  if im = 0 then sat32 (absInt re.toInt)
  else if re = 0 then sat32 (absInt im.toInt)
  else BitVec.ofInt 32 (clampTo 0 maxQ (Config.magqRaw re im).toInt)

/-- `ATAN2T(im, re)` (R15): a phase word, with the four half axes and the origin as anchors. -/
def atan2t (im re : Word) : Word :=
  if im = 0 then (if 0 ≤ re.toInt then 0 else BitVec.ofInt 32 minQ)
  else if re = 0 then (if 0 < im.toInt then BitVec.ofInt 32 1073741824 else BitVec.ofInt 32 (-1073741824))
  else Config.atan2tRaw im re

/-- LOG10Q at `ONE + n`: 0 at ONE and non-decreasing in `n` (R16). -/
def log10qAbove : Nat → Int
  | 0 => 0
  | n + 1 => max (log10qAbove n) (Config.log10qRaw (BitVec.ofInt 32 (one + (n + 1 : Nat)))).toInt

/-- LOG10Q at `ONE - n`: 0 at ONE and non-increasing in `n` (R16). -/
def log10qBelow : Nat → Int
  | 0 => 0
  | n + 1 => min (log10qBelow n) (Config.log10qRaw (BitVec.ofInt 32 (one - (n + 1 : Nat)))).toInt

/-- `LOG10Q(v)` (R16), for `v` from 1 to 2^31 - 1: `LOG10Q(ONE) = 0`, monotone non-decreasing. -/
def log10q (v : Int) : Int :=
  if one ≤ v then log10qAbove (v - one).toNat else log10qBelow (one - v).toNat

/-- EXP10Q at `-n`: ONE at 0, non-increasing in `n`, above 0 and at most ONE (R17). -/
def exp10qBelow : Nat → Int
  | 0 => one
  | n + 1 => min (exp10qBelow n) (clampTo 1 one (Config.exp10qRaw (BitVec.ofInt 32 (-(n + 1 : Nat) : Int))).toInt)

/-- `EXP10Q(e)` (R17), for `e` from ENVFLOOR to 0: `EXP10Q(0) = ONE`, in (0, ONE], monotone non-decreasing. -/
def exp10q (e : Int) : Int := exp10qBelow (-e).toNat

/-- `U = 2^32 / PV_N`, the phase of one FFT bin (R18). -/
def twiddleStep (c : Config) : Nat := 2 ^ 32 / c.pvN

/-- `TWR[m] = COST(m·U)` (R18, R49). -/
def twr (c : Config) (m : Nat) : Int := cost (BitVec.ofNat 32 (m * twiddleStep c))

/-- `TWI[m] = -SINT(m·U)` (R18, R49). -/
def twi (c : Config) (m : Nat) : Int := -sint (BitVec.ofNat 32 (m * twiddleStep c))

/-- `HANN[n] = (ONE - COST(wrap32s(n·U))) >> 1` (R18, R49). -/
def hann (c : Config) (n : Nat) : Int := (one - cost (BitVec.ofNat 32 (n * twiddleStep c))) / 2

end Sys2Proof.Machine
end

