-- ==== Sys2Proof/Syntax.lean ====
section
/-! DEFINITION. The commands of the unit: one constructor for each row of spec/opcode_table.json (30_encoding.md R107).

A field of a command word that the row uses is a plain number here (a register, channel, bank, line, count or mode
number); `imm` is the signed increment of XADD.  The bounds the encoding puts on them are in WellFormed.lean. -/

namespace Sys2Proof

/-- One command of the unit (R107).  The comment of each constructor is its syntax of R110. -/
inductive Instr where
  /-- `NOP` (R120) -/
  | nop
  /-- `INIT` (R121) -/
  | init
  /-- `DEVUPD` (R122) -/
  | devupd
  /-- `COMMIT` (R123) -/
  | commit
  /-- `LDX Vd, #ch, Xi` (R126) -/
  | ldx (d ch x : Nat)
  /-- `ACY #ch, Xi, Vs` (R127) -/
  | acy (ch x vs : Nat)
  /-- `XADD Xd, #imm` (R128) -/
  | xadd (d : Nat) (imm : Int)
  /-- `MIXO Xi, Vs` (R129) -/
  | mixo (x vs : Nat)
  /-- `RDWR #line, Xo, Vs` (R141) -/
  | rdwr (line x vs : Nat)
  /-- `RDRD Vd, #line, Xo` (R142) -/
  | rdrd (d line x : Nat)
  /-- `RDRTW Vd, #line, Xo, Xq, Vs` (R143) -/
  | rdrtw (d line x q vs : Nat)
  /-- `BQ2 Vd, #f, Vs` (R150) -/
  | bq2 (d f vs : Nat)
  /-- `BQ1 Vd, #f, Vs` (R151) -/
  | bq1 (d f vs : Nat)
  /-- `AP Vd, #a, Xo, Vs` (R153) -/
  | ap (d a x vs : Nat)
  /-- `BQBLK #f, #ci, #co, #n` (R154) -/
  | bqblk (f ci co n : Nat)
  /-- `HHMIX Vd, Vs` (R160) -/
  | hhmix (d vs : Nat)
  /-- `ROTMIX Vd, Vs` (R161) -/
  | rotmix (d vs : Nat)
  /-- `FDNSTEP Vd, Xo, Vs` (R163) -/
  | fdnstep (d x vs : Nat)
  /-- `FFTBREV` (R171) -/
  | fftbrev
  /-- `BFLY Xa, Xb, Xm, #inv` (R172) -/
  | bfly (xa xb xm inv : Nat)
  /-- `FFT #inv` (R173) -/
  | fft (inv : Nat)
  /-- `PVWIN` (R180) -/
  | pvwin
  /-- `PVANA` (R181) -/
  | pvana
  /-- `PVSHIFT` (R182) -/
  | pvshift
  /-- `PVSYN` (R183) -/
  | pvsyn
  /-- `PVOLA` (R184) -/
  | pvola
  /-- `PSHBLK #ci, #co, #n` (R188) -/
  | pshblk (ci co n : Nat)
  /-- `ENVLINK Vd, Xi` (R201) -/
  | envlink (d x : Nat)
  /-- `ENVRMS Vd, Vs` (R202) -/
  | envrms (d vs : Nat)
  /-- `ENVFOL Vd, Vs` (R203) -/
  | envfol (d vs : Nat)
  /-- `ENVGAIN Vd, Vs` (R205) -/
  | envgain (d vs : Nat)
  /-- `CMPBLK #n` (R207) -/
  | cmpblk (n : Nat)
deriving DecidableEq, Repr

end Sys2Proof
end

