-- ==== Sys2Proof/WellFormed.lean ====
section
/-! DEFINITION. Which command terms a command word can stand for: every field fits the bits R101 gives it.

What a field must NAME (a V base at most 12, an X number at most 7 in field A, a bank, a channel, a count at most
BLOCK_MAX, a mode) is not asked here: such a word decodes, and the command raises E_OPERAND (R102). -/

namespace Sys2Proof

/-- Fields A and B have four bits (R101). -/
def fitsA (n : Nat) : Bool := decide (n < 16)

/-- Fields XA and XB have three bits (R101). -/
def fitsX (n : Nat) : Bool := decide (n < 8)

/-- Field N5 has five bits (R101). -/
def fitsN5 (n : Nat) : Bool := decide (n < 32)

/-- Field CNT has eleven bits (R101, R106). -/
def fitsCnt (n : Nat) : Bool := decide (n < 2048)

/-- IMM16 is read as a signed 16-bit number (R106). -/
def fitsImm (k : Int) : Bool := decide (-32768 ≤ k) && decide (k ≤ 32767)

/-- Every field of the command fits its bits of the command word (R101, R107). -/
def Instr.wellFormed : Instr → Bool
  | .nop => true
  | .init => true
  | .devupd => true
  | .commit => true
  | .ldx d ch x => fitsA d && fitsA ch && fitsX x
  | .acy ch x vs => fitsA ch && fitsX x && fitsA vs
  | .xadd d imm => fitsA d && fitsImm imm
  | .mixo x vs => fitsX x && fitsA vs
  | .rdwr line x vs => fitsN5 line && fitsX x && fitsA vs
  | .rdrd d line x => fitsA d && fitsN5 line && fitsX x
  | .rdrtw d line x q vs => fitsA d && fitsN5 line && fitsX x && fitsX q && fitsA vs
  | .bq2 d f vs => fitsA d && fitsN5 f && fitsA vs
  | .bq1 d f vs => fitsA d && fitsN5 f && fitsA vs
  | .ap d a x vs => fitsA d && fitsN5 a && fitsX x && fitsA vs
  | .bqblk f ci co n => fitsN5 f && fitsA ci && fitsA co && fitsCnt n
  | .hhmix d vs => fitsA d && fitsA vs
  | .rotmix d vs => fitsA d && fitsA vs
  | .fdnstep d x vs => fitsA d && fitsX x && fitsA vs
  | .fftbrev => true
  | .bfly xa xb xm inv => fitsX xa && fitsX xb && fitsA xm && fitsA inv
  | .fft inv => fitsA inv
  | .pvwin => true
  | .pvana => true
  | .pvshift => true
  | .pvsyn => true
  | .pvola => true
  | .pshblk ci co n => fitsA ci && fitsA co && fitsCnt n
  | .envlink d x => fitsA d && fitsX x
  | .envrms d vs => fitsA d && fitsA vs
  | .envfol d vs => fitsA d && fitsA vs
  | .envgain d vs => fitsA d && fitsA vs
  | .cmpblk n => fitsCnt n

end Sys2Proof
end

