-- ==== Sys2Proof/Decode.lean ====
section
/-! DEFINITION. The decoder (30_encoding.md R100 to R108) and, after it, the encoder (R110).

A command is one 32-bit word and the unit has no byte order (R71, R109), so the decoder takes the word itself. -/

namespace Sys2Proof

/-- Why a word is no command.  Both raise E_BADOP (R100, R254). -/
inductive DecodeError where
  /-- no row of R107 has this opcode byte -/
  | unassignedOpcode (op : Nat)
  /-- a field the command does not use is not zero -/
  | reservedField (mnemonic : String)
deriving DecidableEq, Repr

/-- The bits `w[lo + n - 1 : lo]` as an unsigned number (00_scope.md section 5.1). -/
def bitField (w lo n : Nat) : Nat := w / 2 ^ lo % 2 ^ n

/-- `sext_16` of 00_scope.md section 5.1. -/
def sext16 (n : Nat) : Int := if n < 32768 then (n : Int) else (n : Int) - 65536

/-- The command, if the fields the row does not use are zero (R100, R102). -/
def accept (unusedZero : Bool) (mnemonic : String) (i : Instr) : Except DecodeError Instr :=
  if unusedZero then .ok i else .error (.reservedField mnemonic)

/-- Decode a command word given as a number below 2^32 (R100, R101, R107). -/
def decodeNat (w : Nat) : Except DecodeError Instr :=
  let a := bitField w 20 4
  let b := bitField w 16 4
  let xa := bitField w 13 3
  let xb := bitField w 10 3
  let n5 := bitField w 5 5
  let z5 := bitField w 0 5
  let low := bitField w 0 16
  let k5 := bitField w 11 5
  let cnt := bitField w 0 11
  let zForm := a == 0 && b == 0 && low == 0
  match bitField w 24 8 with
  | 0x00 => accept zForm "NOP" .nop
  | 0x01 => accept zForm "INIT" .init
  | 0x02 => accept zForm "DEVUPD" .devupd
  | 0x03 => accept zForm "COMMIT" .commit
  | 0x08 => accept (xb == 0 && n5 == 0 && z5 == 0) "LDX" (.ldx a b xa)
  | 0x09 => accept (xb == 0 && n5 == 0 && z5 == 0) "ACY" (.acy a xa b)
  | 0x0A => accept (b == 0) "XADD" (.xadd a (sext16 low))
  | 0x0B => accept (a == 0 && xb == 0 && n5 == 0 && z5 == 0) "MIXO" (.mixo xa b)
  | 0x10 => accept (a == 0 && xb == 0 && z5 == 0) "RDWR" (.rdwr n5 xa b)
  | 0x11 => accept (b == 0 && xb == 0 && z5 == 0) "RDRD" (.rdrd a n5 xa)
  | 0x12 => accept (z5 == 0) "RDRTW" (.rdrtw a n5 xa xb b)
  | 0x20 => accept (xa == 0 && xb == 0 && z5 == 0) "BQ2" (.bq2 a n5 b)
  | 0x21 => accept (xa == 0 && xb == 0 && z5 == 0) "BQ1" (.bq1 a n5 b)
  | 0x22 => accept (xb == 0 && z5 == 0) "AP" (.ap a n5 xa b)
  | 0x28 => accept true "BQBLK" (.bqblk k5 a b cnt)
  | 0x30 => accept (low == 0) "HHMIX" (.hhmix a b)
  | 0x31 => accept (low == 0) "ROTMIX" (.rotmix a b)
  | 0x32 => accept (xb == 0 && n5 == 0 && z5 == 0) "FDNSTEP" (.fdnstep a xa b)
  | 0x40 => accept zForm "FFTBREV" .fftbrev
  | 0x41 => accept (n5 == 0 && z5 == 0) "BFLY" (.bfly xa xb a b)
  | 0x42 => accept (a == 0 && low == 0) "FFT" (.fft b)
  | 0x43 => accept zForm "PVWIN" .pvwin
  | 0x44 => accept zForm "PVANA" .pvana
  | 0x45 => accept zForm "PVSHIFT" .pvshift
  | 0x46 => accept zForm "PVSYN" .pvsyn
  | 0x47 => accept zForm "PVOLA" .pvola
  | 0x48 => accept (k5 == 0) "PSHBLK" (.pshblk a b cnt)
  | 0x50 => accept (b == 0 && xb == 0 && n5 == 0 && z5 == 0) "ENVLINK" (.envlink a xa)
  | 0x51 => accept (low == 0) "ENVRMS" (.envrms a b)
  | 0x52 => accept (low == 0) "ENVFOL" (.envfol a b)
  | 0x53 => accept (low == 0) "ENVGAIN" (.envgain a b)
  | 0x58 => accept (a == 0 && b == 0 && k5 == 0) "CMPBLK" (.cmpblk cnt)
  | op => .error (.unassignedOpcode op)

/-- Decode a command word: total on all 2^32 words (R100). -/
def decode (w : Word) : Except DecodeError Instr := decodeNat w.toNat

/-- The instruction the decoder reads from an instruction whose bits are `w` (bit 0 the least significant, R101).
Every row has 32 bits (R109); a shorter `nbits` leaves the bits above it zero, a longer word is no command. -/
def decodeTableWord (nbits w : Nat) : Option Instr :=
  if nbits ≤ 32 then
    match decode (BitVec.ofNat 32 (w % 2 ^ nbits)) with
    | .ok i => some i
    | .error _ => none
  else none

/-- One row of the opcode map of R107. -/
structure OpcodeRow where
  mnemonic : String
  opcode : Nat
  mask : Word
  value : Word
deriving DecidableEq, Repr

/-- The opcode map of R107, row by row: mnemonic, opcode byte, mask and match. -/
def opcodeMap : List OpcodeRow :=
  [⟨"NOP", 0x00, 0xFFFFFFFF, 0x00000000⟩,
   ⟨"INIT", 0x01, 0xFFFFFFFF, 0x01000000⟩,
   ⟨"DEVUPD", 0x02, 0xFFFFFFFF, 0x02000000⟩,
   ⟨"COMMIT", 0x03, 0xFFFFFFFF, 0x03000000⟩,
   ⟨"LDX", 0x08, 0xFF001FFF, 0x08000000⟩,
   ⟨"ACY", 0x09, 0xFF001FFF, 0x09000000⟩,
   ⟨"XADD", 0x0A, 0xFF0F0000, 0x0A000000⟩,
   ⟨"MIXO", 0x0B, 0xFFF01FFF, 0x0B000000⟩] ++
  [⟨"RDWR", 0x10, 0xFFF01C1F, 0x10000000⟩,
   ⟨"RDRD", 0x11, 0xFF0F1C1F, 0x11000000⟩,
   ⟨"RDRTW", 0x12, 0xFF00001F, 0x12000000⟩,
   ⟨"BQ2", 0x20, 0xFF00FC1F, 0x20000000⟩,
   ⟨"BQ1", 0x21, 0xFF00FC1F, 0x21000000⟩,
   ⟨"AP", 0x22, 0xFF001C1F, 0x22000000⟩,
   ⟨"BQBLK", 0x28, 0xFF000000, 0x28000000⟩,
   ⟨"HHMIX", 0x30, 0xFF00FFFF, 0x30000000⟩] ++
  [⟨"ROTMIX", 0x31, 0xFF00FFFF, 0x31000000⟩,
   ⟨"FDNSTEP", 0x32, 0xFF001FFF, 0x32000000⟩,
   ⟨"FFTBREV", 0x40, 0xFFFFFFFF, 0x40000000⟩,
   ⟨"BFLY", 0x41, 0xFF0003FF, 0x41000000⟩,
   ⟨"FFT", 0x42, 0xFFF0FFFF, 0x42000000⟩,
   ⟨"PVWIN", 0x43, 0xFFFFFFFF, 0x43000000⟩,
   ⟨"PVANA", 0x44, 0xFFFFFFFF, 0x44000000⟩,
   ⟨"PVSHIFT", 0x45, 0xFFFFFFFF, 0x45000000⟩] ++
  [⟨"PVSYN", 0x46, 0xFFFFFFFF, 0x46000000⟩,
   ⟨"PVOLA", 0x47, 0xFFFFFFFF, 0x47000000⟩,
   ⟨"PSHBLK", 0x48, 0xFF00F800, 0x48000000⟩,
   ⟨"ENVLINK", 0x50, 0xFF0F1FFF, 0x50000000⟩,
   ⟨"ENVRMS", 0x51, 0xFF00FFFF, 0x51000000⟩,
   ⟨"ENVFOL", 0x52, 0xFF00FFFF, 0x52000000⟩,
   ⟨"ENVGAIN", 0x53, 0xFF00FFFF, 0x53000000⟩,
   ⟨"CMPBLK", 0x58, 0xFFFFF800, 0x58000000⟩]

/-- The opcode byte of a command (R107). -/
def Instr.opcode : Instr → Nat
  | .nop => 0x00
  | .init => 0x01
  | .devupd => 0x02
  | .commit => 0x03
  | .ldx _ _ _ => 0x08
  | .acy _ _ _ => 0x09
  | .xadd _ _ => 0x0A
  | .mixo _ _ => 0x0B
  | .rdwr _ _ _ => 0x10
  | .rdrd _ _ _ => 0x11
  | .rdrtw _ _ _ _ _ => 0x12
  | .bq2 _ _ _ => 0x20
  | .bq1 _ _ _ => 0x21
  | .ap _ _ _ _ => 0x22
  | .bqblk _ _ _ _ => 0x28
  | .hhmix _ _ => 0x30
  | .rotmix _ _ => 0x31
  | .fdnstep _ _ _ => 0x32
  | .fftbrev => 0x40
  | .bfly _ _ _ _ => 0x41
  | .fft _ => 0x42
  | .pvwin => 0x43
  | .pvana => 0x44
  | .pvshift => 0x45
  | .pvsyn => 0x46
  | .pvola => 0x47
  | .pshblk _ _ _ => 0x48
  | .envlink _ _ => 0x50
  | .envrms _ _ => 0x51
  | .envfol _ _ => 0x52
  | .envgain _ _ => 0x53
  | .cmpblk _ => 0x58

/-- The low 16 bits of format R: `(XA << 13) + (XB << 10) + (N5 << 5)` (R110). -/
def lowR (xa xb n5 : Nat) : Nat := xa * 0x2000 + xb * 0x400 + n5 * 0x20

/-- The low 16 bits of format K: `(N5 << 11) + CNT` (R110). -/
def lowK (n5 cnt : Nat) : Nat := n5 * 0x800 + cnt

/-- Fields A, B and the low 16 bits of a command's word (R107, R110). -/
def Instr.fields : Instr → Nat × Nat × Nat
  | .nop => (0, 0, 0)
  | .init => (0, 0, 0)
  | .devupd => (0, 0, 0)
  | .commit => (0, 0, 0)
  | .ldx d ch x => (d, ch, lowR x 0 0)
  | .acy ch x vs => (ch, vs, lowR x 0 0)
  | .xadd d imm => (d, 0, (imm % 65536).toNat)
  | .mixo x vs => (0, vs, lowR x 0 0)
  | .rdwr line x vs => (0, vs, lowR x 0 line)
  | .rdrd d line x => (d, 0, lowR x 0 line)
  | .rdrtw d line x q vs => (d, vs, lowR x q line)
  | .bq2 d f vs => (d, vs, lowR 0 0 f)
  | .bq1 d f vs => (d, vs, lowR 0 0 f)
  | .ap d a x vs => (d, vs, lowR x 0 a)
  | .bqblk f ci co n => (ci, co, lowK f n)
  | .hhmix d vs => (d, vs, 0)
  | .rotmix d vs => (d, vs, 0)
  | .fdnstep d x vs => (d, vs, lowR x 0 0)
  | .fftbrev => (0, 0, 0)
  | .bfly xa xb xm inv => (xm, inv, lowR xa xb 0)
  | .fft inv => (0, inv, 0)
  | .pvwin => (0, 0, 0)
  | .pvana => (0, 0, 0)
  | .pvshift => (0, 0, 0)
  | .pvsyn => (0, 0, 0)
  | .pvola => (0, 0, 0)
  | .pshblk ci co n => (ci, co, lowK 0 n)
  | .envlink d x => (d, 0, lowR x 0 0)
  | .envrms d vs => (d, vs, 0)
  | .envfol d vs => (d, vs, 0)
  | .envgain d vs => (d, vs, 0)
  | .cmpblk n => (0, 0, lowK 0 n)

/-- The command word as a number: `(OP << 24) + (A << 20) + (B << 16) + low16` (R110). -/
def encodeNat (i : Instr) : Nat :=
  i.opcode * 0x1000000 + i.fields.1 * 0x100000 + i.fields.2.1 * 0x10000 + i.fields.2.2

/-- The command word of a well-formed command (R110). -/
def encode (i : Instr) : Word := BitVec.ofNat 32 (encodeNat i)

end Sys2Proof
end

