-- ==== Sys2Proof/Machine/Memory.lean ====
section
/-! DEFINITION. A memory of the unit as plain data: a list of (index, word) pairs in one canonical form.

The smallest unit of every memory is a whole word (20_memory.md R70), so a cell is an index and a word.  What an
unlisted word reads as is said once, in `Memory.read`: below `zeroed` it is 0 (a word that reset, INIT or DEVUPD has
cleared); at or above it nothing has written the word since reset, and it reads as the free word the reader passes,
the unspecified value of 70_reset_and_hazards.md R281. -/

namespace Sys2Proof.Machine

/-- A memory of `w`-bit words: the words below `zeroed` that are not 0, and the words at or above it that have been
written, by rising index. -/
structure Memory (w : Nat) where
  zeroed : Nat
  cells : List (Nat × BitVec w)
deriving DecidableEq, Repr

/-- A memory whose words below `n` are all 0 (R51). -/
def Memory.zeros {w : Nat} (n : Nat) : Memory w := ⟨n, []⟩

/-- A memory whose every word is unspecified (R281). -/
def Memory.unwritten {w : Nat} : Memory w := ⟨0, []⟩

/-- The listed word at index `a`. -/
def cellFind {w : Nat} : List (Nat × BitVec w) → Nat → Option (BitVec w)
  | [], _ => none
  | (b, u) :: rest, a => if a = b then some u else cellFind rest a

/-- The list with the word `v` at index `a`. -/
def cellPut {w : Nat} : List (Nat × BitVec w) → Nat → BitVec w → List (Nat × BitVec w)
  | [], a, v => [(a, v)]
  | (b, u) :: rest, a, v =>
    if a = b then (a, v) :: rest
    else if a < b then (a, v) :: (b, u) :: rest
    else (b, u) :: cellPut rest a v

/-- The list without index `a`. -/
def cellDrop {w : Nat} : List (Nat × BitVec w) → Nat → List (Nat × BitVec w)
  | [], _ => []
  | (b, u) :: rest, a => if a = b then cellDrop rest a else (b, u) :: cellDrop rest a

/-- The word at index `a`; `free` is what the word holds if nothing has written or cleared it since reset. -/
def Memory.read {w : Nat} (m : Memory w) (free : BitVec w) (a : Nat) : BitVec w :=
  match cellFind m.cells a with
  | some v => v
  | none => if a < m.zeroed then 0 else free

/-- The memory after the word `v` is written at index `a`; the canonical form is kept. -/
def Memory.write {w : Nat} (m : Memory w) (a : Nat) (v : BitVec w) : Memory w :=
  if v = 0 ∧ a < m.zeroed then { m with cells := cellDrop m.cells a }
  else { m with cells := cellPut m.cells a v }

/-- The memory after `for j in 0 .. n-1: M[j] <- 0` (40_system.md R122). -/
def Memory.zeroFill {w : Nat} (m : Memory w) (n : Nat) : Memory w :=
  ⟨max m.zeroed n, m.cells.filter fun c => decide (n ≤ c.1)⟩

/-- The indices rise strictly. -/
def rising {w : Nat} : List (Nat × BitVec w) → Bool
  | [] => true
  | [_] => true
  | c :: d :: rest => decide (c.1 < d.1) && rising (d :: rest)

/-- The canonical form: rising indices, and no listed word equal to what an unlisted one reads as. -/
def Memory.wf {w : Nat} (m : Memory w) : Bool :=
  rising m.cells && m.cells.all fun c => !(c.2 == 0 && decide (c.1 < m.zeroed))

end Sys2Proof.Machine
end

