-- ==== Sys2Proof/Machine/Params.lean ====
section
/-! DEFINITION. The parameter index space: every defined index with its format, legal range and reset value
(10_state.md R37), and the index of each named parameter. -/

namespace Sys2Proof.Machine

/-- How a parameter word is compared with its range (R37): a q24 word signed, an index word or enumeration unsigned. -/
inductive Fmt where
  | q
  | u
  | e
deriving DecidableEq, Repr

/-- One row of the table of R37: format, legal range and reset value. -/
structure ParamSpec where
  fmt : Fmt
  lo : Int
  hi : Int
  reset : Int
deriving DecidableEq, Repr

def pBqB0 (f : Nat) : Nat := 8 * f
def pBqB1 (f : Nat) : Nat := 8 * f + 1
def pBqB2 (f : Nat) : Nat := 8 * f + 2
def pBqA1 (f : Nat) : Nat := 8 * f + 3
def pBqA2 (f : Nat) : Nat := 8 * f + 4
def pApLine (a : Nat) : Nat := 0x80 + 4 * a
def pApDly (a : Nat) : Nat := 0x80 + 4 * a + 1
def pApG (a : Nat) : Nat := 0x80 + 4 * a + 2
def pMixX : Nat := 0xA0
def pMixY : Nat := 0xA1
def pDens : Nat := 0xA2
def pFLine (c : Nat) : Nat := 0xA4 + c
def pFDly (c : Nat) : Nat := 0xA8 + c
def pFDamp (c : Nat) : Nat := 0xAC + c
def pFAp (c : Nat) : Nat := 0xB0 + c
def pCPre : Nat := 0xC0
def pCPost : Nat := 0xC1
def pCThresh : Nat := 0xC2
def pCSlope : Nat := 0xC3
def pCKnee : Nat := 0xC4
def pCKneeM : Nat := 0xC5
def pCAtkS : Nat := 0xC6
def pCAtkF : Nat := 0xC7
def pCRelS : Nat := 0xC8
def pCRelF : Nat := 0xC9
def pCMode : Nat := 0xCA
def pCNch : Nat := 0xCB
def pPvRatio : Nat := 0xD0
def pPvNorm : Nat := 0xD1
def pMNch : Nat := 0xD8
def pMSilThr : Nat := 0xD9
def pMPan (c : Nat) : Nat := 0xE0 + c

/-- The reset value of PV_NORM: `floor((16·ONE + 3·PV_OSAMP) / (6·PV_OSAMP))` (R37, R191). -/
def pvNormReset (c : Config) : Int := (16 * one + 3 * c.pvOsamp) / (6 * c.pvOsamp)

/-- The row of R37 for parameter index `p`; `none` is an unknown ID. -/
def paramSpec (c : Config) (p : Nat) : Option ParamSpec :=
  if p < 0x80 then
    if p % 8 = 0 then some ⟨.q, minQ, maxQ, one⟩
    else if p % 8 ≤ 4 then some ⟨.q, minQ, maxQ, 0⟩
    else none
  else if p < 0xA0 then
    if p % 4 = 0 then some ⟨.u, 0, ndl - 1, 0⟩
    else if p % 4 = 1 then some ⟨.u, 0, maxQ, 0⟩
    else if p % 4 = 2 then some ⟨.q, -one, one, 0⟩
    else none
  else if p = 0xA0 then some ⟨.q, -one, one, one⟩
  else if p = 0xA1 then some ⟨.q, -one, one, 0⟩
  else if p = 0xA2 then some ⟨.q, 0, one, 0⟩
  else if p = 0xA3 then none
  else if p < 0xA8 then some ⟨.u, 0, ndl - 1, 0⟩
  else if p < 0xAC then some ⟨.u, 0, maxQ, 0⟩
  else if p < 0xB0 then some ⟨.u, 0, nbq - 1, 0⟩
  else if p < 0xB4 then some ⟨.u, 0, nap - 1, 0⟩
  else if p < 0xC0 then none
  else if p ≤ 0xC1 then some ⟨.q, 0, maxQ, one⟩
  else if p = 0xC2 then some ⟨.q, -5 * one, 2 * one, 0⟩
  else if p = 0xC3 then some ⟨.q, 0, one, 0⟩
  else if p = 0xC4 then some ⟨.q, minQ, maxQ, 0⟩
  else if p ≤ 0xC9 then some ⟨.q, 0, maxQ, 0⟩
  else if p = 0xCA then some ⟨.e, 0, 3, 0⟩
  else if p = 0xCB then some ⟨.u, 1, c.nchMax, 1⟩
  else if p < 0xD0 then none
  else if p = 0xD0 then some ⟨.q, one / 4, 4 * one, one⟩
  else if p = 0xD1 then some ⟨.q, 0, maxQ, pvNormReset c⟩
  else if p < 0xD8 then none
  else if p = 0xD8 then some ⟨.u, 1, c.nchMax, 1⟩
  else if p = 0xD9 then some ⟨.q, 0, maxQ, 0⟩
  else if p < 0xE0 then none
  else if p < 0xE0 + c.nchMax ∧ p < 0xF0 then some ⟨.q, minQ, maxQ, 0⟩
  else none

/-- The number a parameter word stands for when it is compared with its range (R37, R38). -/
def Fmt.value (f : Fmt) (w : Word) : Int :=
  match f with
  | .q => w.toInt
  | .u => w.toNat
  | .e => w.toNat

/-- Is the word inside the legal range (R38: signed comparison for q, unsigned for u)? -/
def ParamSpec.legal (sp : ParamSpec) (w : Word) : Bool :=
  decide (sp.lo ≤ sp.fmt.value w) && decide (sp.fmt.value w ≤ sp.hi)

/-- The reset word of index `p`; an unknown index does not exist and nothing reads this word (R51). -/
def paramReset (c : Config) (p : Nat) : Word :=
  match paramSpec c p with
  | some sp => BitVec.ofInt 32 sp.reset
  | none => 0

/-- A parameter bank at its reset column (R37, R51). -/
def bankReset (c : Config) : Vector Word 256 := Vector.ofFn fun p => paramReset c p.val

end Sys2Proof.Machine
end

