-- ==== Sys2Proof/Machine/State.lean ====
section
/-! DEFINITION. The state of the unit (10_state.md), the outcomes' reasons, and the state after reset (R51, R280). -/

namespace Sys2Proof.Machine

/-- Why the model stops with a fault.  The unit itself never stops (93: "nothing in this spec is `stuck`"; R82): every
command and every bus transaction has a result defined by a rule. -/
inductive Fault where
  /-- Raised by `step` alone, when the state's configuration violates a constraint of 00_scope.md section 4 (93
  section 1: "a value outside its constraint: `refuse`").  Safe: no run from reset meets it. -/
  | notAnInstance
deriving DecidableEq, Repr

/-- Why the model refuses. -/
inductive Refusal where
  /-- Raised by `exec` for a command that has no meaning yet.  Safe.  No arm of `exec` raises it. -/
  | notModelled (mnemonic : String)
  /-- Raised by `step` alone, for a byte-addressed bridge's access that is not one whole aligned word (20_memory.md
  R75: "The model refuses such an access (it has no meaning)").  Safe. -/
  | notWholeWord
deriving DecidableEq, Repr

/-- The seven errors of the unit (60_exceptions.md R250). -/
inductive Err where
  | range
  | badid
  | badop
  | operand
  | alloc
  | nodev
  | busy
deriving DecidableEq, Repr

/-- One input of the host (00_scope.md section 7: the host issues bus reads and writes; R72: the pins). -/
inductive HostOp where
  /-- a bus read of a word address (R73) -/
  | read (addr : BitVec 16)
  /-- a bus write of a word address (R74); if it starts a command, `lag` is the number of later transactions that
  still find STATUS.BUSY = 1 (R82: unspecified, finite) -/
  | write (addr : BitVec 16) (data : Word) (lag : Nat)
  /-- a pulse of `rst_n` with the reset sequence it starts (R280) -/
  | reset
  /-- a read of `bytes` bytes at a byte address, through a bridge to a byte-addressed bus (R71, R75) -/
  | bridgeRead (byteAddr : BitVec 18) (bytes : Nat)
  /-- a write of `bytes` bytes at a byte address, through such a bridge -/
  | bridgeWrite (byteAddr : BitVec 18) (bytes : Nat) (data : Word) (lag : Nat)
deriving DecidableEq, Repr

/-- What the port answered: `h_rdata` of a read and `h_err` (R72 to R74). -/
inductive Response where
  | readDone (data : Word) (err : Bool)
  | writeDone (err : Bool)
deriving DecidableEq, Repr

/-- A command in progress: STATUS.BUSY is 1 while there is one (R26).  `left` transactions still find it busy. -/
structure Running where
  instr : Instr
  left : Nat
deriving DecidableEq, Repr

/-- The phase vocoder's state (R43, R44). -/
structure PvState where
  /-- PVCNT, the fill counter of the input FIFO. -/
  cnt : Word
  /-- PVMUTE, the output samples still forced to zero. -/
  mute : Word
  fr : Memory 32
  fi : Memory 32
  inf : Memory 32
  outf : Memory 32
  acc : Memory 32
  lastph : Memory 32
  sumph : Memory 32
  amag : Memory 32
  afrq : Memory 48
  smag : Memory 32
  sfrq : Memory 48
deriving DecidableEq, Repr

/-- The compressor's state (R45, R46). -/
structure EnvState where
  /-- ENVLAST, the envelope, log10 amplitude. -/
  last : Word
  /-- CGAIN, the last gain multiplier. -/
  gain : Word
  /-- RMSPOS, the write position of the RMS window. -/
  pos : Word
  /-- RMSSUM, unsigned, 48 bits. -/
  sum : BitVec 48
  /-- RMSW, the window of squared samples. -/
  win : Memory 32
deriving DecidableEq, Repr

/-- The state of the unit with its host port.  Plain data; INVENTORY.md lists every field with its rule. -/
structure State where
  /-- The instance's parameters (00_scope.md section 4): the model's own field, written by nothing. -/
  cfg : Config
  /-- The host's inputs still to come, in their total order (R80): the model's own field. -/
  host : List HostOp
  /-- The answer to the last bus transaction, `h_rdata` and `h_err` (R72). -/
  resp : Option Response
  /-- How many resets there have been: the model's own counter for the free words of R281. -/
  epoch : Nat
  /-- How many times FLAGS was read while BUSY: the model's own counter for the free values of R81. -/
  polls : Nat
  /-- The command in progress; STATUS.BUSY (R26). -/
  running : Option Running
  /-- STATUS.DEVOK (R26). -/
  devok : Bool
  /-- STATUS.CMDOK (R26). -/
  cmdok : Bool
  /-- FLAGS bits 7:0 (R30); bits 31:8 read 0. -/
  flags : BitVec 8
  /-- LASTERR (R31): the most recent error, none since reset. -/
  lasterr : Option Err
  /-- ERRINFO (R32). -/
  errinfo : Word
  /-- MSEL (R33). -/
  msel : Word
  /-- MADDR (R33). -/
  maddr : Word
  /-- V[0..15] (R20). -/
  v : Vector Word 16
  /-- X[0..7] (R21). -/
  x : Vector Word 8
  /-- DLREQ[0..31] (R34). -/
  dlreq : Vector Word 32
  /-- DLBASE[0..31] (R35). -/
  dlbase : Vector Word 32
  /-- DLLEN[0..31] (R35). -/
  dllen : Vector Word 32
  /-- PS[0..255], the shadow bank (R36). -/
  ps : Vector Word 256
  /-- PA[0..255], the active bank (R36). -/
  pa : Vector Word 256
  /-- BQZ1[0..15] (R40). -/
  bqz1 : Vector Word 16
  /-- BQZ2[0..15] (R40). -/
  bqz2 : Vector Word 16
  /-- BQY[0..15] (R40). -/
  bqy : Vector Word 16
  /-- The phase vocoder (R43, R44). -/
  pv : PvState
  /-- The compressor (R45, R46). -/
  env : EnvState
  /-- XBUF by linear index `c·BLOCK_MAX + i` (R47). -/
  xbuf : Memory 32
  /-- YBUF by linear index (R47). -/
  ybuf : Memory 32
  /-- DM, the delay memory (R48). -/
  dm : Memory 32
deriving DecidableEq, Repr

/-- The vocoder's "after reset" column of R51: PVCNT = PV_L, PVMUTE = FIFO_LATENCY, every memory 0. -/
def PvState.reset (c : Config) : PvState where
  cnt := BitVec.ofNat 32 c.pvL
  mute := BitVec.ofNat 32 c.fifoLatency
  fr := .zeros c.pvN
  fi := .zeros c.pvN
  inf := .zeros c.pvN
  outf := .zeros c.hop
  acc := .zeros c.pvN
  lastph := .zeros (c.half + 1)
  sumph := .zeros (c.half + 1)
  amag := .zeros (c.half + 1)
  afrq := .zeros (c.half + 1)
  smag := .zeros (c.half + 1)
  sfrq := .zeros (c.half + 1)

/-- The compressor's "after reset" column of R51: ENVLAST = ENVFLOOR, CGAIN = ONE, the rest 0. -/
def EnvState.reset (c : Config) : EnvState where
  last := BitVec.ofInt 32 envFloor
  gain := BitVec.ofInt 32 one
  pos := 0
  sum := 0
  win := .zeros c.rmsWin

/-- An instance after its reset number `epoch` (R51, R280): no host input, nothing answered yet. -/
def State.resetOf (c : Config) (epoch : Nat) : State where
  cfg := c
  host := []
  resp := none
  epoch := epoch
  polls := 0
  running := none
  devok := false
  cmdok := true
  flags := 0
  lasterr := none
  errinfo := 0
  msel := 0
  maddr := 0
  v := Vector.replicate 16 0
  x := Vector.replicate 8 0
  dlreq := Vector.replicate 32 0
  dlbase := Vector.replicate 32 0
  dllen := Vector.replicate 32 0
  ps := bankReset c
  pa := bankReset c
  bqz1 := Vector.replicate 16 0
  bqz2 := Vector.replicate 16 0
  bqy := Vector.replicate 16 0
  pv := .reset c
  env := .reset c
  xbuf := .unwritten
  ybuf := .unwritten
  dm := .unwritten

/-- The machine right after reset (R51, R280), for the reference instance of 00_scope.md section 4. -/
def State.reset : State := State.resetOf Config.reference 0

end Sys2Proof.Machine
end

