-- ==== Sys2Proof/Machine/Flags.lean ====
section
/-! DEFINITION. FLAGS, the error record and STATUS (10_state.md R26, R30 to R32; 60_exceptions.md R250, R256). -/

namespace Sys2Proof.Machine

/-- The code of an error, which is also its FLAGS bit (R250). -/
def Err.code (e : Err) : Nat :=
  match e with
  | .range => 1
  | .badid => 2
  | .badop => 3
  | .operand => 4
  | .alloc => 5
  | .nodev => 6
  | .busy => 7

/-- The FLAGS word with only bit `n` set (R30). -/
def flagBit (n : Nat) : BitVec 8 := BitVec.ofNat 8 (2 ^ n)

/-- FLAGS.SAT is set if `b` (R3, R30); a sticky bit is never cleared here. -/
def State.noteSat (b : Bool) (s : State) : State :=
  { s with flags := s.flags ||| (if b then flagBit 0 else 0) }

/-- The error record of `raise E_x(info)`: FLAGS[code], LASTERR and ERRINFO (R256). -/
def State.record (e : Err) (info : Word) (s : State) : State :=
  { s with flags := s.flags ||| flagBit e.code, lasterr := some e, errinfo := info }

/-- TAKING AN ERROR, the unit's only exception, in a command (R256): the error is recorded with the command word
`info`, STATUS.CMDOK and STATUS.BUSY become 0, and nothing else changes.  There is no trap entry, no saved state, no
vector and no trap return (R261, R262), so nothing stands beside it. -/
def State.raise (e : Err) (info : Word) (s : State) : State :=
  { s.record e info with cmdok := false, running := none }

/-- Step 6 of a command that completes: STATUS.CMDOK <- 1, STATUS.BUSY <- 0 (30_encoding.md R112). -/
def State.complete (s : State) : State := { s with cmdok := true, running := none }

/-- The word LASTERR reads as: the code of the most recent error, 0 if none (R31). -/
def State.lasterrWord (s : State) : Word :=
  match s.lasterr with
  | some e => BitVec.ofNat 32 e.code
  | none => 0

/-- STATUS.BUSY (R26). -/
def State.busy (s : State) : Bool := s.running.isSome

/-- The word STATUS reads as: BUSY, DEVOK, CMDOK in bits 0, 1, 2 (R26). -/
def State.statusWord (s : State) : Word :=
  BitVec.ofNat 32 ((if s.busy then 1 else 0) + (if s.devok then 2 else 0) + (if s.cmdok then 4 else 0))

/-- The word FLAGS reads as: bits 31:8 read 0 (R30). -/
def State.flagsWord (s : State) : Word := BitVec.ofNat 32 s.flags.toNat

/-- FLAGS.SAT (R30). -/
def State.sat (s : State) : Bool := s.flags.getLsbD 0

end Sys2Proof.Machine
end

