-- ==== Sys2Proof/Machine/Operands.lean ====
section
/-! DEFINITION. The operand forms: tap registers, four-lane groups, offset registers, parameters of the active bank,
delay lines, block samples, and the operand checks of 30_encoding.md R113. -/

namespace Sys2Proof.Machine

/-- `V[i]` (R20). -/
def State.getV (s : State) (i : Nat) : Word := s.v[i]?.getD 0

/-- `X[i]` (R21). -/
def State.getX (s : State) (i : Nat) : Word := s.x[i]?.getD 0

/-- `PA[p]` as a word (R36). -/
def State.par (s : State) (p : Nat) : Word := s.pa[p]?.getD 0

/-- A q24 parameter of the active bank (R1). -/
def State.parQ (s : State) (p : Nat) : Int := (s.par p).toInt

/-- An index parameter of the active bank (R10). -/
def State.parU (s : State) (p : Nat) : Nat := (s.par p).toNat

/-- `DLREQ[d]`, `DLBASE[d]`, `DLLEN[d]` (R34, R35). -/
def State.dlReq (s : State) (d : Nat) : Word := s.dlreq[d]?.getD 0
def State.dlBase (s : State) (d : Nat) : Word := s.dlbase[d]?.getD 0
def State.dlLen (s : State) (d : Nat) : Word := s.dllen[d]?.getD 0

/-- `BQZ1[f]`, `BQZ2[f]`, `BQY[f]` (R40). -/
def State.z1 (s : State) (f : Nat) : Word := s.bqz1[f]?.getD 0
def State.z2 (s : State) (f : Nat) : Word := s.bqz2[f]?.getD 0
def State.yLast (s : State) (f : Nat) : Word := s.bqy[f]?.getD 0

/-- A group of four lanes (R22). -/
structure Lanes where
  l0 : Word
  l1 : Word
  l2 : Word
  l3 : Word
deriving DecidableEq, Repr

/-- The four-lane operand `V[b], V[b+1], V[b+2], V[b+3]` (R22). -/
def State.lanes (s : State) (b : Nat) : Lanes := ⟨s.getV b, s.getV (b + 1), s.getV (b + 2), s.getV (b + 3)⟩

/-- The linear index of sample `i` of channel `c` (R47). -/
def State.blockIndex (s : State) (c i : Nat) : Nat := c * s.cfg.blockMax + i

/-- The window space numbers of the three memories that reset leaves unspecified (20_memory.md R86). -/
abbrev spaceDm : Nat := 0
abbrev spaceX : Nat := 1
abbrev spaceY : Nat := 2

/-- Word `j` of XBUF, by linear index (R47). -/
def State.xbufAt (s : State) (j : Nat) : Word := s.xbuf.read (Config.unspecified spaceX s.epoch j) j

/-- Word `j` of YBUF, by linear index (R47). -/
def State.ybufAt (s : State) (j : Nat) : Word := s.ybuf.read (Config.unspecified spaceY s.epoch j) j

/-- `DM[j]` (R48). -/
def State.dmAt (s : State) (j : Nat) : Word := s.dm.read (Config.unspecified spaceDm s.epoch j) j

/-- The index in DM of the word of line `d` at offset `o`: `DLBASE[d] + (o AND (DLLEN[d] - 1))` (41_ring_delay.md
R140). -/
def State.ringIndex (s : State) (d : Nat) (o : Word) : Nat :=
  (s.dlBase d).toNat + (o &&& (s.dlLen d - 1)).toNat

/-- `ring_read(d, o)` (R140). -/
def State.ringRead (s : State) (d : Nat) (o : Word) : Word := s.dmAt (s.ringIndex d o)

/-- `chk_v4`: a four-lane base is at most 12 (R22, R113). -/
def chkV4 (a : Nat) : Bool := decide (a ≤ 12)

/-- `chk_x`: an X register named by field A or B is at most 7 (R113). -/
def chkX (a : Nat) : Bool := decide (a ≤ 7)

/-- `chk_ch`: a channel is below NCH_MAX (R113). -/
def State.chkCh (s : State) (c : Nat) : Bool := decide (c < s.cfg.nchMax)

/-- `chk_idx`: the X register that indexes a block holds less than BLOCK_MAX (R113). -/
def State.chkIdx (s : State) (x : Nat) : Bool := decide ((s.getX x).toNat < s.cfg.blockMax)

/-- `chk_bq`: a biquad bank is below NBQ (R113). -/
def chkBq (f : Nat) : Bool := decide (f < nbq)

/-- `chk_ap`: an all-pass bank is below NAP (R113). -/
def chkAp (a : Nat) : Bool := decide (a < nap)

/-- `chk_cnt`: a count is at most BLOCK_MAX (R113). -/
def State.chkCnt (s : State) (n : Nat) : Bool := decide (n ≤ s.cfg.blockMax)

/-- `chk_mode`: a mode is at most 1 (R113). -/
def chkMode (b : Nat) : Bool := decide (b ≤ 1)

end Sys2Proof.Machine
end

