-- ==== Sys2Proof/Machine/Ops.lean ====
section
/-! DEFINITION. The named operations that change registers and memory, and the life cycle of a command
(30_encoding.md R112). -/

namespace Sys2Proof.Machine

/-- `V[i] <- w` (R20). -/
def State.setV (s : State) (i : Nat) (w : Word) : State := { s with v := s.v.setIfInBounds i w }

/-- `X[i] <- w` (R21). -/
def State.setX (s : State) (i : Nat) (w : Word) : State := { s with x := s.x.setIfInBounds i w }

/-- The four lanes of a destination group are written, the lowest first (R22). -/
def State.setLanes (s : State) (b : Nat) (l : Lanes) : State :=
  (((s.setV b l.l0).setV (b + 1) l.l1).setV (b + 2) l.l2).setV (b + 3) l.l3

/-- `BQZ1[f] <- n1`, `BQY[f] <- y` (R151). -/
def State.setOnePole (s : State) (f : Nat) (n1 y : Word) : State :=
  { s with bqz1 := s.bqz1.setIfInBounds f n1, bqy := s.bqy.setIfInBounds f y }

/-- `BQZ1[f] <- n1`, `BQZ2[f] <- n2`, `BQY[f] <- y` (R150). -/
def State.setTwoPole (s : State) (f : Nat) (n1 n2 y : Word) : State :=
  { s with bqz1 := s.bqz1.setIfInBounds f n1, bqz2 := s.bqz2.setIfInBounds f n2, bqy := s.bqy.setIfInBounds f y }

/-- `DM[j] <- w` (R48). -/
def State.writeDm (s : State) (j : Nat) (w : Word) : State := { s with dm := s.dm.write j w }

/-- `ring_write(d, o, w)` (R140). -/
def State.ringWrite (s : State) (d : Nat) (o w : Word) : State := s.writeDm (s.ringIndex d o) w

/-- Word `j` of YBUF is overwritten: the host's access, and the unit's through `accumY` alone (R47). -/
def State.writeY (s : State) (j : Nat) (w : Word) : State := { s with ybuf := s.ybuf.write j w }

/-- Word `j` of XBUF is overwritten: the host's access alone (R47). -/
def State.writeX (s : State) (j : Nat) (w : Word) : State := { s with xbuf := s.xbuf.write j w }

/-- `YBUF[c][i] <- sat32(YBUF[c][i] + v)`, the form of every write of the unit into YBUF (40_system.md R125). -/
def State.accumY (s : State) (c i : Nat) (v : Int) : State :=
  let j := s.blockIndex c i
  let sum := (s.ybufAt j).toInt + v
  (s.writeY j (sat32 sum)).noteSat (clips sum)

/-- The life cycle of an accepted command after its decode (R112): the operand checks, which raise E_OPERAND; for a
command that touches a delay line the device check, which raises E_NODEV (R258); then its state changes, and step 6.
A failing check changes nothing but the error record (R259 gives the order). -/
def runCommand (i : Instr) (operandsOk touchesLine : Bool) (effect : State → State) (s : State) :
    Host.Outcome State Fault Refusal :=
  if !operandsOk then .next (s.raise .operand (encode i))
  else if touchesLine && !s.devok then .next (s.raise .nodev (encode i))
  else .next (effect s).complete

end Sys2Proof.Machine
end

