-- ==== Sys2Proof/Machine/Envelope.lean ====
section
/-! DEFINITION. The compressor: ENVLINK, ENVRMS, ENVFOL, ENVGAIN, CMPBLK (45_envelope.md). -/

namespace Sys2Proof.Machine

/-- The exact pre-gained sample of channel `c` at index `i`: `rnd_24(C_PRE * XBUF[c][i])` (R201). -/
def State.preGained (s : State) (i c : Nat) : Int :=
  rnd 24 (s.parQ pCPre * (s.xbufAt (s.blockIndex c i)).toInt)

/-- `p_c` of R201: the absolute value of the narrowed pre-gained sample. -/
def State.linkLevel (s : State) (i c : Nat) : Word := sat32 (absInt (sat32 (s.preGained i c)).toInt)

/-- Does computing `p_c` clip (R3, R4)? -/
def State.linkClips (s : State) (i c : Nat) : Bool :=
  clips (s.preGained i c) || clips (absInt (sat32 (s.preGained i c)).toInt)

/-- `C_MODE` bit 0: absolute-max linking (R37). -/
def State.linkMax (s : State) : Bool := s.parU pCMode % 2 == 1

/-- `C_MODE` bit 1: the RMS window (R37). -/
def State.rmsMode (s : State) : Bool := s.parU pCMode / 2 % 2 == 1

/-- LINK of R201 at sample `i`: the linked level and the state after it (only FLAGS.SAT may change). -/
def linkStep (i : Nat) (s : State) : Word × State :=
  let n := s.parU pCNch
  let anyClip := (List.range n).any (s.linkClips i)
  if s.linkMax then
    (BitVec.ofInt 32 (iter n (fun c m => max m (s.linkLevel i c).toInt) 0), s.noteSat anyClip)
  else
    let sum := iter n (fun c t => t + (s.linkLevel i c).toInt) (0 : Int)
    (sat32 sum, s.noteSat (anyClip || clips sum))

/-- RMS of R202 on the value `p`: the mean square and the state after it. -/
def rmsStep (p : Int) (s : State) : Word × State :=
  let sqExact := rnd 24 (p * p)
  let sq := sat32 sqExact
  let pos := s.env.pos.toNat
  let sum := (s.env.sum.toNat : Int) + sq.toInt - (s.env.win.read 0 pos).toInt
  let mean := (BitVec.ofInt 48 sum).toNat / 2 ^ Nat.log2 s.cfg.rmsWin
  (sat32 mean,
    { s with env := { s.env with
        sum := BitVec.ofInt 48 sum
        win := s.env.win.write pos sq
        pos := BitVec.ofNat 32 ((pos + 1) % s.cfg.rmsWin) } }.noteSat (clips sqExact || clips mean))

/-- The target `T` of R203 for the level `v`: ENVFLOOR for a level at or below 0, else the logarithm, halved in RMS
mode, and never below ENVFLOOR. -/
def followTarget (v : Int) (s : State) : Int :=
  if v ≤ 0 then envFloor
  else max envFloor (if s.rmsMode then rnd 1 (log10q v) else log10q v)

/-- `rate = min(ONE, (2·|dl|) div 9)` (R203). -/
def followRate (dl : Int) : Int := min one (2 * absInt dl / 9)

/-- A step word interpolated between its slow and fast value (R203). -/
def followSlew (slow fast rate : Int) : Int := slow + rnd 24 (rate * (fast - slow))

/-- The new envelope of R203 for the target `t` and the last envelope `last`: never past the target. -/
def followNext (t last : Int) (s : State) : Int :=
  let dl := t - last
  let rate := followRate dl
  if 0 < dl then min t (last + followSlew (s.parQ pCAtkS) (s.parQ pCAtkF) rate)
  else if dl < 0 then max t (last - followSlew (s.parQ pCRelS) (s.parQ pCRelF) rate)
  else last

/-- FOLLOW of R203 on the level `v`. -/
def followStep (v : Int) (s : State) : Word × State :=
  let new := BitVec.ofInt 32 (followNext (followTarget v s) s.env.last.toInt s)
  (new, { s with env := { s.env with last := new } })

/-- The exponent of R205 before it is clamped: the hard knee, or the quadratic blend over the knee. -/
def gainExponent (env : Int) (s : State) : Int :=
  let t := s.parQ pCThresh
  let slope := s.parQ pCSlope
  let k := s.parQ pCKnee
  if k = 0 then rnd 24 (slope * (t - env))
  else
    let lower := t - k / 2
    let upper := lower + k
    if env ≤ lower then 0
    else if upper ≤ env then rnd 24 (slope * (t - env))
    else -rnd 24 (rnd 24 ((env - lower) * (env - lower)) * s.parQ pCKneeM)

/-- GAIN of R205 on the envelope value `env`: the exponent is clamped to [ENVFLOOR, 0]. -/
def gainStep (env : Int) (s : State) : Word × State :=
  let g := BitVec.ofInt 32 (exp10q (min 0 (max envFloor (gainExponent env s))))
  (g, { s with env := { s.env with gain := g } })

/-- A step's output written to `V[d]`. -/
def State.putLevel (d : Nat) (r : Word × State) : State := r.2.setV d r.1

/-- `ENVLINK Vd, Xi` (R201). -/
def execEnvlink (d x : Nat) (s : State) : Host.Outcome State Fault Refusal :=
  runCommand (.envlink d x) (s.chkIdx x) false (fun s => .putLevel d (linkStep (s.getX x).toNat s)) s

/-- `ENVRMS Vd, Vs` (R202). -/
def execEnvrms (d vs : Nat) (s : State) : Host.Outcome State Fault Refusal :=
  runCommand (.envrms d vs) true false (fun s => .putLevel d (rmsStep (s.getV vs).toInt s)) s

/-- `ENVFOL Vd, Vs` (R203). -/
def execEnvfol (d vs : Nat) (s : State) : Host.Outcome State Fault Refusal :=
  runCommand (.envfol d vs) true false (fun s => .putLevel d (followStep (s.getV vs).toInt s)) s

/-- `ENVGAIN Vd, Vs` (R205). -/
def execEnvgain (d vs : Nat) (s : State) : Host.Outcome State Fault Refusal :=
  runCommand (.envgain d vs) true false (fun s => .putLevel d (gainStep (s.getV vs).toInt s)) s

/-- The last line of CMPBLK's loop for channel `c` of sample `i` (R207), with `gt = rnd_24(C_POST * g)`. -/
def compressChannel (i : Nat) (gt : Int) (c : Nat) (s : State) : State :=
  let scExact := s.preGained i c
  let outExact := rnd 24 ((sat32 scExact).toInt * gt)
  (s.accumY c i (sat32 outExact).toInt).noteSat (clips scExact || clips outExact)

/-- The body of CMPBLK's loop for sample `i` (R207): LINK, RMS if enabled, FOLLOW, GAIN, then every channel. -/
def compressSample (i : Nat) (s : State) : State :=
  let link := linkStep i s
  let level := if s.rmsMode then rmsStep link.1.toInt link.2 else link
  let env := followStep level.1.toInt level.2
  let gain := gainStep env.1.toInt env.2
  let gt := rnd 24 (s.parQ pCPost * gain.1.toInt)
  iter (s.parU pCNch) (compressChannel i gt) gain.2

/-- `CMPBLK #n` (R207). -/
def execCmpblk (n : Nat) (s : State) : Host.Outcome State Fault Refusal :=
  runCommand (.cmpblk n) (s.chkCnt n) false (fun s => iter n compressSample s) s

end Sys2Proof.Machine
end

