-- ==== Sys2Proof/Machine/Filters.lean ====
section
/-! DEFINITION. The filter taps: BQ2, BQ1, AP, BQBLK (42_filters.md). -/

namespace Sys2Proof.Machine

/-- The two-pole step of R150 on bank `f` with input `x`: the output word and the state after it. -/
def bq2Step (f : Nat) (x : Int) (s : State) : Word × State :=
  let yExact := rnd 24 (s.parQ (pBqB0 f) * x + (s.z1 f).toInt * 2 ^ 24)
  let y := sat32 yExact
  let n1Exact := rnd 24 (s.parQ (pBqB1 f) * x - s.parQ (pBqA1 f) * y.toInt + (s.z2 f).toInt * 2 ^ 24)
  let n2Exact := rnd 24 (s.parQ (pBqB2 f) * x - s.parQ (pBqA2 f) * y.toInt)
  (y, (s.setTwoPole f (sat32 n1Exact) (sat32 n2Exact) y).noteSat (clips yExact || clips n1Exact || clips n2Exact))

/-- The one-pole step of R151 on bank `f` with input `x`: BQZ2, b2 and a2 are neither read nor written. -/
def bq1Step (f : Nat) (x : Int) (s : State) : Word × State :=
  let yExact := rnd 24 (s.parQ (pBqB0 f) * x + (s.z1 f).toInt * 2 ^ 24)
  let y := sat32 yExact
  let n1Exact := rnd 24 (s.parQ (pBqB1 f) * x - s.parQ (pBqA1 f) * y.toInt)
  (y, (s.setOnePole f (sat32 n1Exact) y).noteSat (clips yExact || clips n1Exact))

/-- The all-pass step of R153 on bank `a` at offset `o` with input `x`: the read comes before the write. -/
def apStep (a : Nat) (o : Word) (x : Int) (s : State) : Word × State :=
  let line := s.parU (pApLine a)
  let g := s.parQ (pApG a)
  let d := s.ringRead line (o - s.par (pApDly a))
  let yExact := rnd 24 (d.toInt * 2 ^ 24 - g * x)
  let y := sat32 yExact
  let wExact := rnd 24 (x * 2 ^ 24 + g * y.toInt)
  (y, (s.ringWrite line o (sat32 wExact)).noteSat (clips yExact || clips wExact))

/-- A step's output written to `V[d]`. -/
def State.putResult (d : Nat) (r : Word × State) : State := r.2.setV d r.1

/-- `BQ2 Vd, #f, Vs` (R150). -/
def execBq2 (d f vs : Nat) (s : State) : Host.Outcome State Fault Refusal :=
  runCommand (.bq2 d f vs) (chkBq f) false (fun s => .putResult d (bq2Step f (s.getV vs).toInt s)) s

/-- `BQ1 Vd, #f, Vs` (R151). -/
def execBq1 (d f vs : Nat) (s : State) : Host.Outcome State Fault Refusal :=
  runCommand (.bq1 d f vs) (chkBq f) false (fun s => .putResult d (bq1Step f (s.getV vs).toInt s)) s

/-- `AP Vd, #a, Xo, Vs` (R153). -/
def execAp (d a x vs : Nat) (s : State) : Host.Outcome State Fault Refusal :=
  runCommand (.ap d a x vs) (chkAp a) true (fun s => .putResult d (apStep a (s.getX x) (s.getV vs).toInt s)) s

/-- The body of BQBLK's loop for sample `k` (R154). -/
def bqBlockSample (f ci co k : Nat) (s : State) : State :=
  let r := bq2Step f (s.xbufAt (s.blockIndex ci k)).toInt s
  r.2.accumY co k r.1.toInt

/-- `BQBLK #f, #ci, #co, #n` (R154). -/
def execBqblk (f ci co n : Nat) (s : State) : Host.Outcome State Fault Refusal :=
  runCommand (.bqblk f ci co n) (chkBq f && s.chkCh ci && s.chkCh co && s.chkCnt n) false
    (fun s => iter n (bqBlockSample f ci co) s) s

end Sys2Proof.Machine
end

