-- ==== Sys2Proof/Machine/Fdn.lean ====
section
/-! DEFINITION. The mixing matrices and the late-reverb loop step: HHMIX, ROTMIX, FDNSTEP (43_fdn.md). -/

namespace Sys2Proof.Machine

/-- Four exact lane values, before narrowing. -/
structure ExactLanes where
  e0 : Int
  e1 : Int
  e2 : Int
  e3 : Int
deriving DecidableEq, Repr

/-- `sat32` of each lane (R3). -/
def ExactLanes.words (e : ExactLanes) : Lanes := ⟨sat32 e.e0, sat32 e.e1, sat32 e.e2, sat32 e.e3⟩

/-- Does any lane clip (R3)? -/
def ExactLanes.clip (e : ExactLanes) : Bool := clips e.e0 || clips e.e1 || clips e.e2 || clips e.e3

/-- The Householder lanes of R160: `v - t_i` with `v = rnd_1(t_0 + t_1 + t_2 + t_3)`. -/
def householder (t : Lanes) : ExactLanes :=
  let v := rnd 1 (t.l0.toInt + t.l1.toInt + t.l2.toInt + t.l3.toInt)
  ⟨v - t.l0.toInt, v - t.l1.toInt, v - t.l2.toInt, v - t.l3.toInt⟩

/-- The rotation lanes of R161. -/
def rotation (x y : Int) (f : Lanes) : ExactLanes :=
  let f0 := f.l0.toInt
  let f1 := f.l1.toInt
  let f2 := f.l2.toInt
  let f3 := f.l3.toInt
  ⟨rnd 24 (x * f0 + y * (f1 - f2 + f3)),
   rnd 24 (x * f1 + y * (-f0 + f2 + f3)),
   rnd 24 (x * f2 + y * (f0 - f1 + f3)),
   rnd 24 (x * f3 + y * (-f0 - f1 - f2))⟩

/-- The four lanes are narrowed into the destination group, with SAT (R160, R161). -/
def State.putLanes (d : Nat) (e : ExactLanes) (s : State) : State := (s.setLanes d e.words).noteSat e.clip

/-- `HHMIX Vd, Vs` (R160). -/
def execHhmix (d vs : Nat) (s : State) : Host.Outcome State Fault Refusal :=
  runCommand (.hhmix d vs) (chkV4 d && chkV4 vs) false (fun s => s.putLanes d (householder (s.lanes vs))) s

/-- `ROTMIX Vd, Vs` (R161). -/
def execRotmix (d vs : Nat) (s : State) : Host.Outcome State Fault Refusal :=
  runCommand (.rotmix d vs) (chkV4 d && chkV4 vs) false
    (fun s => s.putLanes d (rotation (s.parQ pMixX) (s.parQ pMixY) (s.lanes vs))) s

/-- Lane `c` of FDNSTEP's first loop (R163) with input `sample` at offset `o`: feedback, density gain, damper,
all-pass. -/
def fdnLane (c : Nat) (o : Word) (sample : Word) (s : State) : Word × State :=
  let fb := s.ringRead (s.parU (pFLine c)) (o - s.par (pFDly c))
  let tExact := rnd 24 (s.parQ pDens * sample.toInt) + fb.toInt
  let damped := bq1Step (s.parU (pFDamp c)) (sat32 tExact).toInt (s.noteSat (clips tExact))
  apStep (s.parU (pFAp c)) o damped.1.toInt damped.2

/-- FDNSTEP's first loop: the four lanes in order (R163). -/
def fdnLanes (o : Word) (l : Lanes) (s : State) : Lanes × State :=
  let r0 := fdnLane 0 o l.l0 s
  let r1 := fdnLane 1 o l.l1 r0.2
  let r2 := fdnLane 2 o l.l2 r1.2
  let r3 := fdnLane 3 o l.l3 r2.2
  (⟨r0.1, r1.1, r2.1, r3.1⟩, r3.2)

/-- FDNSTEP's second loop: the rotated lanes close the four cyclical lines (R163). -/
def fdnClose (o : Word) (m : Lanes) (s : State) : State :=
  let s0 := s.ringWrite (s.parU (pFLine 0)) o m.l0
  let s1 := s0.ringWrite (s0.parU (pFLine 1)) o m.l1
  let s2 := s1.ringWrite (s1.parU (pFLine 2)) o m.l2
  s2.ringWrite (s2.parU (pFLine 3)) o m.l3

/-- The state changes of FDNSTEP (R163). -/
def fdnEffect (d x vs : Nat) (s : State) : State :=
  let o := s.getX x
  let r := fdnLanes o (s.lanes vs) s
  let m := rotation (s.parQ pMixX) (s.parQ pMixY) r.1
  ((fdnClose o m.words r.2).noteSat m.clip).setLanes d r.1

/-- `FDNSTEP Vd, Xo, Vs` (R163). -/
def execFdnstep (d x vs : Nat) (s : State) : Host.Outcome State Fault Refusal :=
  runCommand (.fdnstep d x vs) (chkV4 d && chkV4 vs) true (fdnEffect d x vs) s

end Sys2Proof.Machine
end

