-- ==== Sys2Proof/Machine/RingDelay.lean ====
section
/-! DEFINITION. The ring-delay commands: RDWR, RDRD, RDRTW (41_ring_delay.md). -/

namespace Sys2Proof.Machine

/-- `RDWR #line, Xo, Vs` (R141): `ring_write(line, X[x], V[vs])`. -/
def execRdwr (line x vs : Nat) (s : State) : Host.Outcome State Fault Refusal :=
  runCommand (.rdwr line x vs) true true (fun s => s.ringWrite line (s.getX x) (s.getV vs)) s

/-- `RDRD Vd, #line, Xo` (R142): `V[d] <- ring_read(line, X[x])`. -/
def execRdrd (d line x : Nat) (s : State) : Host.Outcome State Fault Refusal :=
  runCommand (.rdrd d line x) true true (fun s => s.setV d (s.ringRead line (s.getX x))) s

/-- `RDRTW Vd, #line, Xo, Xq, Vs` (R143): the tap at `X[x] - X[q]` is read, then `V[vs]` is written at `X[x]`, then
`V[d]` takes the tap. -/
def execRdrtw (d line x q vs : Nat) (s : State) : Host.Outcome State Fault Refusal :=
  runCommand (.rdrtw d line x q vs) true true
    (fun s => (s.ringWrite line (s.getX x) (s.getV vs)).setV d (s.ringRead line (s.getX x - s.getX q))) s

end Sys2Proof.Machine
end

