-- ==== Sys2Proof/Machine/System.lean ====
section
/-! DEFINITION. The system and block-interface commands: NOP, INIT, DEVUPD, COMMIT, LDX, ACY, XADD, MIXO
(40_system.md). -/

namespace Sys2Proof.Machine

/-- `NOP` (R120). -/
def execNop (s : State) : Host.Outcome State Fault Refusal := runCommand .nop true false id s

/-- The "INIT" column of R51 (R121): everything reset sets but FLAGS, LASTERR, ERRINFO, MSEL, MADDR, and not XBUF,
YBUF, DM.  CMDOK becomes 1 when the command completes. -/
def State.initialise (s : State) : State :=
  { s with
    v := Vector.replicate 16 0
    x := Vector.replicate 8 0
    dlreq := Vector.replicate 32 0
    dlbase := Vector.replicate 32 0
    dllen := Vector.replicate 32 0
    devok := false
    ps := bankReset s.cfg
    pa := bankReset s.cfg
    bqz1 := Vector.replicate 16 0
    bqz2 := Vector.replicate 16 0
    bqy := Vector.replicate 16 0
    pv := .reset s.cfg
    env := .reset s.cfg }

/-- `INIT` (R121). -/
def execInit (s : State) : Host.Outcome State Fault Refusal := runCommand .init true false State.initialise s

/-- `need[d] = DLREQ[d] + DL_SLACK`, an integer that does not wrap (R122). -/
def State.lineNeed (s : State) (d : Nat) : Nat := (s.dlReq d).toNat + s.cfg.dlSlack

/-- `new[d] = nextpow2(max(1, need[d]))` (R122). -/
def State.newLen (s : State) (d : Nat) : Nat := nextPow2 (max 1 (s.lineNeed d))

/-- The sum of the new lengths (R122). -/
def State.newTotal (s : State) : Nat := sumUpTo ndl s.newLen

/-- Neither E_ALLOC condition of R122 holds (R257). -/
def State.allocFits (s : State) : Bool :=
  (List.range ndl).all (fun d => decide (s.lineNeed d ≤ 2 ^ 31)) && decide (s.newTotal ≤ s.cfg.dmWords)

/-- `exists d with new[d] != DLLEN[d]` (R122). -/
def State.lengthChanged (s : State) : Bool := (List.range ndl).any fun d => s.newLen d != (s.dlLen d).toNat

/-- Every line is laid out anew in ascending order and every word of the arena is zero-filled (R122). -/
def State.reallocate (s : State) : State :=
  { s with
    dlbase := Vector.ofFn fun d => BitVec.ofNat 32 (sumUpTo d.val s.newLen)
    dllen := Vector.ofFn fun d => BitVec.ofNat 32 (s.newLen d.val)
    dm := s.dm.zeroFill s.newTotal }

/-- The device update that fits the arena (R122): reallocation only when a length changed; DEVOK <- 1. -/
def State.deviceUpdate (s : State) : State :=
  { (if s.lengthChanged then s.reallocate else s) with devok := true }

/-- `DEVUPD` (R122): E_ALLOC is raised before the first write. -/
def execDevupd (s : State) : Host.Outcome State Fault Refusal :=
  if s.allocFits then runCommand .devupd true false State.deviceUpdate s
  else .next (s.raise .alloc (encode .devupd))

/-- `PA[p] <- PS[p]` for every index, in one step (R123, R36). -/
def State.commitParams (s : State) : State := { s with pa := s.ps }

/-- `COMMIT` (R123). -/
def execCommit (s : State) : Host.Outcome State Fault Refusal := runCommand .commit true false State.commitParams s

/-- `LDX Vd, #ch, Xi` (R126): `V[d] <- XBUF[ch][X[x]]`. -/
def execLdx (d ch x : Nat) (s : State) : Host.Outcome State Fault Refusal :=
  runCommand (.ldx d ch x) (s.chkCh ch && s.chkIdx x) false
    (fun s => s.setV d (s.xbufAt (s.blockIndex ch (s.getX x).toNat))) s

/-- `ACY #ch, Xi, Vs` (R127): `YBUF[ch][X[x]] <- sat32(YBUF[ch][X[x]] + V[vs])`. -/
def execAcy (ch x vs : Nat) (s : State) : Host.Outcome State Fault Refusal :=
  runCommand (.acy ch x vs) (s.chkCh ch && s.chkIdx x) false
    (fun s => s.accumY ch (s.getX x).toNat (s.getV vs).toInt) s

/-- `XADD Xd, #imm` (R128): `X[d] <- wrap32u(X[d] + imm)`. -/
def execXadd (d : Nat) (imm : Int) (s : State) : Host.Outcome State Fault Refusal :=
  runCommand (.xadd d imm) (chkX d) false (fun s => s.setX d (wrapWord ((s.getX d).toNat + imm))) s

/-- The body of MIXO's loop for channel `c` at sample `i` (R129): a gain whose absolute value is not above the
silence threshold leaves the channel's word untouched. -/
def State.mixChannel (i : Nat) (sample : Int) (c : Nat) (s : State) : State :=
  if s.parQ pMSilThr < absInt (s.parQ (pMPan c)) then s.accumY c i (rnd 24 (s.parQ (pMPan c) * sample)) else s

/-- `MIXO Xi, Vs` (R129). -/
def execMixo (x vs : Nat) (s : State) : Host.Outcome State Fault Refusal :=
  runCommand (.mixo x vs) (s.chkIdx x) false
    (fun s => iter (s.parU pMNch) (State.mixChannel (s.getX x).toNat (s.getV vs).toInt) s) s

end Sys2Proof.Machine
end

