-- ==== Sys2Proof/Machine/Vocoder.lean ====
section
/-! DEFINITION. The FFT and the phase vocoder: FFTBREV, BFLY, FFT, PVWIN, PVANA, PVSHIFT, PVSYN, PVOLA, PSHBLK
(44_phase_vocoder.md). -/

namespace Sys2Proof.Machine

/-- A word of a vocoder memory; every word has been cleared by reset or INIT (R51). -/
def Memory.at0 {w : Nat} (m : Memory w) (k : Nat) : BitVec w := m.read 0 k

/-- `rev(i)` of R171: the `b`-bit representation of `i` reversed. -/
def bitRev (b i : Nat) : Nat :=
  match b with
  | 0 => 0
  | b + 1 => (i % 2) * 2 ^ b + bitRev b (i / 2)

/-- `swap M[i] with M[j]` (R171). -/
def Memory.swap {w : Nat} (m : Memory w) (i j : Nat) : Memory w :=
  (m.write i (m.at0 j)).write j (m.at0 i)

/-- The body of FFTBREV's loop (R171). -/
def bitRevSwap (i : Nat) (s : State) : State :=
  let j := bitRev (Nat.log2 s.cfg.pvN) i
  if i < j then { s with pv := { s.pv with fr := s.pv.fr.swap i j, fi := s.pv.fi.swap i j } } else s

/-- The bit-reversal permutation of FR and FI (R171). -/
def bitReversal (s : State) : State := iter s.cfg.pvN bitRevSwap s

/-- One butterfly on the entries `a`, `b` with twiddle `m` (R172): all four words are read first, `a` is written
before `b`; forward halves, inverse does not. -/
def butterfly (inv : Bool) (a b m : Nat) (s : State) : State :=
  let wr := twr s.cfg m
  let wi := if inv then -twi s.cfg m else twi s.cfg m
  let ur := (s.pv.fr.at0 a).toInt
  let ui := (s.pv.fi.at0 a).toInt
  let vr := (s.pv.fr.at0 b).toInt
  let vi := (s.pv.fi.at0 b).toInt
  let tr := rnd 24 (wr * vr - wi * vi)
  let ti := rnd 24 (wr * vi + wi * vr)
  let half := fun z : Int => if inv then z else rnd 1 z
  let ra := half (ur + tr)
  let ia := half (ui + ti)
  let rb := half (ur - tr)
  let ib := half (ui - ti)
  { s with pv := { s.pv with
      fr := (s.pv.fr.write a (sat32 ra)).write b (sat32 rb)
      fi := (s.pv.fi.write a (sat32 ia)).write b (sat32 ib) } }.noteSat
    (clips ra || clips ia || clips rb || clips ib)

/-- One stage of the transform (R173): `len = 2^(st+1)`, over every block `q` and every `j` in it. -/
def fftStage (inv : Bool) (st : Nat) (s : State) : State :=
  let len := 2 ^ (st + 1)
  let blocks := s.cfg.pvN / len
  iter blocks (fun q s =>
    iter (len / 2) (fun j s => butterfly inv (q * len + j) (q * len + j + len / 2) (j * blocks) s) s) s

/-- The transform of R173: bit reversal, then the stages `len = 2, 4, ..., N`. -/
def fftRun (inv : Bool) (s : State) : State := iter (Nat.log2 s.cfg.pvN) (fftStage inv) (bitReversal s)

/-- `FFTBREV` (R171). -/
def execFftbrev (s : State) : Host.Outcome State Fault Refusal := runCommand .fftbrev true false bitReversal s

/-- `BFLY Xa, Xb, Xm, #inv` (R172). -/
def execBfly (xa xb xm inv : Nat) (s : State) : Host.Outcome State Fault Refusal :=
  runCommand (.bfly xa xb xm inv)
    (chkX xm && chkMode inv && decide ((s.getX xa).toNat < s.cfg.pvN) && decide ((s.getX xb).toNat < s.cfg.pvN) &&
      decide ((s.getX xm).toNat < s.cfg.half)) false
    (fun s => butterfly (inv == 1) (s.getX xa).toNat (s.getX xb).toNat (s.getX xm).toNat s) s

/-- `FFT #inv` (R173). -/
def execFft (inv : Nat) (s : State) : Host.Outcome State Fault Refusal :=
  runCommand (.fft inv) (chkMode inv) false (fftRun (inv == 1)) s

/-- The body of PVWIN's loop (R180); no saturation can occur. -/
def windowBin (k : Nat) (s : State) : State :=
  { s with pv := { s.pv with
      fr := s.pv.fr.write k (wrapWord (rnd 24 (hann s.cfg k * (s.pv.inf.at0 k).toInt)))
      fi := s.pv.fi.write k 0 } }

/-- The state changes of PVWIN (R180). -/
def windowFrame (s : State) : State := iter s.cfg.pvN windowBin s

/-- `PVWIN` (R180). -/
def execPvwin (s : State) : Host.Outcome State Fault Refusal := runCommand .pvwin true false windowFrame s

/-- The body of PVANA's loop (R181). -/
def analyseBin (k : Nat) (s : State) : State :=
  let re := s.pv.fr.at0 k
  let im := s.pv.fi.at0 k
  let ph := atan2t im re
  let nominal : Int := k * s.cfg.binStep
  let d := unwrap (ph.toInt - (s.pv.lastph.at0 k).toInt - nominal)
  { s with pv := { s.pv with
      lastph := s.pv.lastph.write k ph
      amag := s.pv.amag.write k (magq re im)
      afrq := s.pv.afrq.write k (BitVec.ofInt 48 (nominal + d)) } }

/-- The state changes of PVANA (R181). -/
def analyseFrame (s : State) : State := iter (s.cfg.half + 1) analyseBin s

/-- `PVANA` (R181). -/
def execPvana (s : State) : Host.Outcome State Fault Refusal := runCommand .pvana true false analyseFrame s

/-- The body of PVSHIFT's first loop (R182). -/
def clearBin (j : Nat) (s : State) : State :=
  { s with pv := { s.pv with smag := s.pv.smag.write j 0, sfrq := s.pv.sfrq.write j 0 } }

/-- The destination of bin `k`: `(k·R + 2^23) >> 24` (R182). -/
def shiftTarget (s : State) (k : Nat) : Int := (k * s.parQ pPvRatio + 2 ^ 23) / 2 ^ 24

/-- The body of PVSHIFT's second loop (R182): magnitudes accumulate, the last frequency wins, a destination above H
is dropped. -/
def shiftBin (k : Nat) (s : State) : State :=
  if shiftTarget s k ≤ s.cfg.half then
    let j := (shiftTarget s k).toNat
    let sum := (s.pv.smag.at0 j).toInt + (s.pv.amag.at0 k).toInt
    { s with pv := { s.pv with
        smag := s.pv.smag.write j (sat32 sum)
        sfrq := s.pv.sfrq.write j (BitVec.ofInt 48 (rnd 24 ((s.pv.afrq.at0 k).toInt * s.parQ pPvRatio))) } }.noteSat
      (clips sum)
  else s

/-- The state changes of PVSHIFT (R182). -/
def shiftFrame (s : State) : State := iter (s.cfg.half + 1) shiftBin (iter (s.cfg.half + 1) clearBin s)

/-- `PVSHIFT` (R182). -/
def execPvshift (s : State) : Host.Outcome State Fault Refusal := runCommand .pvshift true false shiftFrame s

/-- The body of PVSYN's first loop (R183): the new SUMPH[k] is the phase used. -/
def synthBin (k : Nat) (s : State) : State :=
  let ph := wrapWord ((s.pv.sumph.at0 k).toInt + (s.pv.sfrq.at0 k).toInt)
  let m := (s.pv.smag.at0 k).toInt
  let w := if k = 0 ∨ k = s.cfg.half then m else 2 * m
  let re := rnd 24 (w * cost ph)
  let im := rnd 24 (w * sint ph)
  { s with pv := { s.pv with
      sumph := s.pv.sumph.write k ph
      fr := s.pv.fr.write k (sat32 re)
      fi := s.pv.fi.write k (sat32 im) } }.noteSat (clips re || clips im)

/-- The body of PVSYN's second loop: `k` counts from H + 1 (R183). -/
def zeroUpperBin (k : Nat) (s : State) : State :=
  { s with pv := { s.pv with
      fr := s.pv.fr.write (s.cfg.half + 1 + k) 0
      fi := s.pv.fi.write (s.cfg.half + 1 + k) 0 } }

/-- The state changes of PVSYN (R183). -/
def synthFrame (s : State) : State :=
  iter (s.cfg.pvN - (s.cfg.half + 1)) zeroUpperBin (iter (s.cfg.half + 1) synthBin s)

/-- `PVSYN` (R183). -/
def execPvsyn (s : State) : Host.Outcome State Fault Refusal := runCommand .pvsyn true false synthFrame s

/-- PVOLA's first loop (R184): window, scale, accumulate; the triple product is rounded once. -/
def overlapBin (k : Nat) (s : State) : State :=
  let sum := (s.pv.acc.at0 k).toInt + rnd 48 (hann s.cfg k * (s.pv.fr.at0 k).toInt * s.parQ pPvNorm)
  { s with pv := { s.pv with acc := s.pv.acc.write k (sat32 sum) } }.noteSat (clips sum)

/-- PVOLA's second loop: `OUTF[k] <- ACC[k]` (R184). -/
def emitBin (k : Nat) (s : State) : State :=
  { s with pv := { s.pv with outf := s.pv.outf.write k (s.pv.acc.at0 k) } }

/-- PVOLA's third loop: `ACC[k] <- ACC[k + HOP]` (R184). -/
def shiftAccBin (k : Nat) (s : State) : State :=
  { s with pv := { s.pv with acc := s.pv.acc.write k (s.pv.acc.at0 (k + s.cfg.hop)) } }

/-- PVOLA's fourth loop: `k` counts from L (R184). -/
def clearAccBin (k : Nat) (s : State) : State :=
  { s with pv := { s.pv with acc := s.pv.acc.write (s.cfg.pvL + k) 0 } }

/-- PVOLA's fifth loop: `INF[k] <- INF[k + HOP]` (R184). -/
def shiftInBin (k : Nat) (s : State) : State :=
  { s with pv := { s.pv with inf := s.pv.inf.write k (s.pv.inf.at0 (k + s.cfg.hop)) } }

/-- The state changes of PVOLA: the five loops, each after the one before it (R184). -/
def overlapFrame (s : State) : State :=
  iter s.cfg.pvL shiftInBin
    (iter s.cfg.hop clearAccBin
      (iter s.cfg.pvL shiftAccBin
        (iter s.cfg.hop emitBin
          (iter s.cfg.pvN overlapBin s))))

/-- `PVOLA` (R184). -/
def execPvola (s : State) : Host.Outcome State Fault Refusal := runCommand .pvola true false overlapFrame s

/-- One frame: `PVWIN ; FFT #0 ; PVANA ; PVSHIFT ; PVSYN ; FFT #1 ; PVOLA` (R170, R188). -/
def vocoderFrame (s : State) : State :=
  overlapFrame (fftRun true (synthFrame (shiftFrame (analyseFrame (fftRun false (windowFrame s))))))

/-- The first line of PSHBLK's loop: the input sample enters the FIFO (R188). -/
def feedSample (ci k : Nat) (s : State) : State :=
  { s with pv := { s.pv with inf := s.pv.inf.write s.pv.cnt.toNat (s.xbufAt (s.blockIndex ci k)) } }

/-- The output sample of PSHBLK's loop: `OUTF[PVCNT - L]`, forced to zero while PVMUTE is above 0 (R188). -/
def outSample (s : State) : Int :=
  if 0 < s.pv.mute.toNat then 0 else (s.pv.outf.at0 (s.pv.cnt.toNat - s.cfg.pvL)).toInt

/-- `if PVMUTE > 0: PVMUTE <- PVMUTE - 1` (R188). -/
def countMute (s : State) : State :=
  if 0 < s.pv.mute.toNat then { s with pv := { s.pv with mute := s.pv.mute - 1 } } else s

/-- `PVCNT <- PVCNT + 1`, and a frame with `PVCNT <- L` when the FIFO is full (R188). -/
def advanceFifo (s : State) : State :=
  if s.pv.cnt.toNat + 1 = s.cfg.pvN then
    vocoderFrame { s with pv := { s.pv with cnt := BitVec.ofNat 32 s.cfg.pvL } }
  else { s with pv := { s.pv with cnt := s.pv.cnt + 1 } }

/-- The body of PSHBLK's loop for sample `k` (R188). -/
def pitchSample (ci co k : Nat) (s : State) : State :=
  let fed := feedSample ci k s
  advanceFifo ((countMute fed).accumY co k (outSample fed))

/-- `PSHBLK #ci, #co, #n` (R188). -/
def execPshblk (ci co n : Nat) (s : State) : Host.Outcome State Fault Refusal :=
  runCommand (.pshblk ci co n) (s.chkCh ci && s.chkCh co && s.chkCnt n) false
    (fun s => iter n (pitchSample ci co) s) s

end Sys2Proof.Machine
end

