-- ==== Sys2Proof/Machine/Dispatch.lean ====
section
/-! DEFINITION. What each command does: one arm per constructor of Instr (30_encoding.md R107). -/

namespace Sys2Proof.Machine

def exec (i : Instr) (s : State) : Host.Outcome State Fault Refusal :=
  match i with
  | .nop => Sys2Proof.Machine.execNop s
  | .init => Sys2Proof.Machine.execInit s
  | .devupd => Sys2Proof.Machine.execDevupd s
  | .commit => Sys2Proof.Machine.execCommit s
  | .ldx d ch x => Sys2Proof.Machine.execLdx d ch x s
  | .acy ch x vs => Sys2Proof.Machine.execAcy ch x vs s
  | .xadd d imm => Sys2Proof.Machine.execXadd d imm s
  | .mixo x vs => Sys2Proof.Machine.execMixo x vs s
  | .rdwr line x vs => Sys2Proof.Machine.execRdwr line x vs s
  | .rdrd d line x => Sys2Proof.Machine.execRdrd d line x s
  | .rdrtw d line x q vs => Sys2Proof.Machine.execRdrtw d line x q vs s
  | .bq2 d f vs => Sys2Proof.Machine.execBq2 d f vs s
  | .bq1 d f vs => Sys2Proof.Machine.execBq1 d f vs s
  | .ap d a x vs => Sys2Proof.Machine.execAp d a x vs s
  | .bqblk f ci co n => Sys2Proof.Machine.execBqblk f ci co n s
  | .hhmix d vs => Sys2Proof.Machine.execHhmix d vs s
  | .rotmix d vs => Sys2Proof.Machine.execRotmix d vs s
  | .fdnstep d x vs => Sys2Proof.Machine.execFdnstep d x vs s
  | .fftbrev => Sys2Proof.Machine.execFftbrev s
  | .bfly xa xb xm inv => Sys2Proof.Machine.execBfly xa xb xm inv s
  | .fft inv => Sys2Proof.Machine.execFft inv s
  | .pvwin => Sys2Proof.Machine.execPvwin s
  | .pvana => Sys2Proof.Machine.execPvana s
  | .pvshift => Sys2Proof.Machine.execPvshift s
  | .pvsyn => Sys2Proof.Machine.execPvsyn s
  | .pvola => Sys2Proof.Machine.execPvola s
  | .pshblk ci co n => Sys2Proof.Machine.execPshblk ci co n s
  | .envlink d x => Sys2Proof.Machine.execEnvlink d x s
  | .envrms d vs => Sys2Proof.Machine.execEnvrms d vs s
  | .envfol d vs => Sys2Proof.Machine.execEnvfol d vs s
  | .envgain d vs => Sys2Proof.Machine.execEnvgain d vs s
  | .cmpblk n => Sys2Proof.Machine.execCmpblk n s

end Sys2Proof.Machine
end

