-- ==== Sys2Proof/Machine/Bus.lean ====
section
/-! DEFINITION. The host port: bus reads and writes, the register map, the memory window, BUSY, and reset
(10_state.md R23 to R39; 20_memory.md R70 to R89; 70_reset_and_hazards.md R280). -/

namespace Sys2Proof.Machine

/-- The transaction's answer on the port (R72). -/
def State.answer (r : Response) (s : State) : State := { s with resp := some r }

/-- ERRINFO of an error raised by a bus access: the word address, and 0x8000 in the upper half for a write (R32). -/
def busInfo (a : Nat) (isWrite : Bool) : Word := BitVec.ofNat 32 (a + if isWrite then 0x80000000 else 0)

/-- `raise E_x` by a bus transaction: the error is recorded, the transaction completes with `h_err = 1`, and a read
returns 0 (R256, R76). -/
def State.rejectBus (e : Err) (a : Nat) (isWrite : Bool) (s : State) : State :=
  (s.record e (busInfo a isWrite)).answer (if isWrite then .writeDone true else .readDone 0 true)

/-- The low window word of a frequency word: `f mod 2^32` (R9, R78). -/
def freqLow (f : Freq) : Word := BitVec.ofInt 32 f.toInt

/-- The high window word of a frequency word: bits 47:32, sign-extended (R9, R78). -/
def freqHigh (f : Freq) : Word := BitVec.ofInt 32 (f.toInt / 2 ^ 32)

/-- Word `m` of a frequency array seen through the window (R78). -/
def freqWord (arr : Memory 48) (m : Nat) : Word :=
  if m % 2 = 0 then freqLow (arr.at0 (m / 2)) else freqHigh (arr.at0 (m / 2))

/-- The size of window space `sp`, in window words (R77, R86); `none` if there is no such space. -/
def windowSize (c : Config) (sp : Nat) : Option Nat :=
  match sp with
  | 0 => some c.dmWords
  | 1 => some (c.nchMax * c.blockMax)
  | 2 => some (c.nchMax * c.blockMax)
  | 3 => some c.pvN
  | 4 => some c.pvN
  | 5 => some c.pvN
  | 6 => some c.hop
  | 7 => some c.pvN
  | 8 => some (c.half + 1)
  | 9 => some (c.half + 1)
  | 10 => some (c.half + 1)
  | 11 => some (2 * (c.half + 1))
  | 12 => some (c.half + 1)
  | 13 => some (2 * (c.half + 1))
  | 14 => some c.rmsWin
  | 15 => some c.half
  | 16 => some c.half
  | 17 => some c.pvN
  | _ => none

/-- Word `m` of window space `sp` (R77, R86). -/
def State.windowWord (s : State) (sp m : Nat) : Word :=
  match sp with
  | 0 => s.dmAt m
  | 1 => s.xbufAt m
  | 2 => s.ybufAt m
  | 3 => s.pv.fr.at0 m
  | 4 => s.pv.fi.at0 m
  | 5 => s.pv.inf.at0 m
  | 6 => s.pv.outf.at0 m
  | 7 => s.pv.acc.at0 m
  | 8 => s.pv.lastph.at0 m
  | 9 => s.pv.sumph.at0 m
  | 10 => s.pv.amag.at0 m
  | 11 => freqWord s.pv.afrq m
  | 12 => s.pv.smag.at0 m
  | 13 => freqWord s.pv.sfrq m
  | 14 => s.env.win.at0 m
  | 15 => BitVec.ofInt 32 (twr s.cfg m)
  | 16 => BitVec.ofInt 32 (twi s.cfg m)
  | 17 => BitVec.ofInt 32 (hann s.cfg m)
  | _ => 0

/-- The error of an MDATA access that its space or index rejects: E_BADID for no such space, then E_RANGE for an
index outside it (R77, R259). -/
def State.windowError (s : State) : Option Err :=
  match windowSize s.cfg s.msel.toNat with
  | none => some .badid
  | some size => if size ≤ s.maddr.toNat then some .range else none

/-- `MADDR <- wrap32u(MADDR + 1)`, after an MDATA access that raised no error (R77). -/
def State.bumpMaddr (s : State) : State := { s with maddr := s.maddr + 1 }

/-- The word address of MDATA and of CMD (R23). -/
abbrev mdataAddr : Nat := 0x0008
abbrev cmdAddr : Nat := 0x0005

/-- A read of MDATA while idle (R77). -/
def mdataRead (s : State) : State :=
  match s.windowError with
  | some e => s.rejectBus e mdataAddr false
  | none => (s.answer (.readDone (s.windowWord s.msel.toNat s.maddr.toNat) false)).bumpMaddr

/-- A write of `w` to MDATA while idle: XBUF and YBUF are the only spaces the host may write (R77, R251). -/
def mdataWrite (w : Word) (s : State) : State :=
  match s.windowError with
  | some e => s.rejectBus e mdataAddr true
  | none =>
    if s.msel.toNat = spaceX then ((s.writeX s.maddr.toNat w).answer (.writeDone false)).bumpMaddr
    else if s.msel.toNat = spaceY then ((s.writeY s.maddr.toNat w).answer (.writeDone false)).bumpMaddr
    else s.rejectBus .badid mdataAddr true

/-- `CAP0` to `CAP3` (R24).  R24 states no word for CAP3 when DL_SLACK does not fit 16 bits: a free value. -/
def Config.cap0 (c : Config) : Word := BitVec.ofNat 32 (c.blockMax + c.nchMax * 2 ^ 16)
def Config.cap1 (c : Config) : Word := BitVec.ofNat 32 (c.pvN + c.pvOsamp * 2 ^ 16)
def Config.cap2 (c : Config) : Word := BitVec.ofNat 32 c.dmWords
def Config.cap3 (c : Config) : Word :=
  if c.dlSlack < 2 ^ 16 then BitVec.ofNat 32 (c.rmsWin + c.dlSlack * 2 ^ 16) else Config.wideCap3 c.rmsWin c.dlSlack

/-- `ID` (R25). -/
def idWord : Word := 0x42510007

/-- A parameter word of a bank, if the index is a known ID (R38). -/
def bankRead (c : Config) (bank : Vector Word 256) (p : Nat) : Option Word :=
  match paramSpec c p with
  | some _ => bank[p]?
  | none => none

/-- The history words of the biquad banks at offset `k` of their block of the map: three words and a reserved one for
each bank (R23). -/
def State.historyWord (s : State) (k : Nat) : Option Word :=
  match k % 4 with
  | 0 => s.bqz1[k / 4]?
  | 1 => s.bqz2[k / 4]?
  | 2 => s.bqy[k / 4]?
  | _ => none

/-- The word a readable register other than MDATA holds; `none` is an address the map gives no read right (R23). -/
def State.regRead (s : State) (a : Nat) : Option Word :=
  if a = 0x0000 then some idWord
  else if a = 0x0001 then some s.statusWord
  else if a = 0x0002 then some s.flagsWord
  else if a = 0x0003 then some s.lasterrWord
  else if a = 0x0004 then some s.errinfo
  else if a = 0x0005 then some 0
  else if a = 0x0006 then some s.msel
  else if a = 0x0007 then some s.maddr
  else if a = 0x0009 then some (Config.cap0 s.cfg)
  else if a = 0x000A then some (Config.cap1 s.cfg)
  else if a = 0x000B then some (Config.cap2 s.cfg)
  else if a = 0x000C then some (Config.cap3 s.cfg)
  else if a < 0x0010 then none
  else if a < 0x0020 then s.v[a - 0x0010]?
  else if a < 0x0028 then s.x[a - 0x0020]?
  else if a < 0x0040 then none
  else if a < 0x0060 then s.dlreq[a - 0x0040]?
  else if a < 0x0080 then s.dlbase[a - 0x0060]?
  else if a < 0x00A0 then s.dllen[a - 0x0080]?
  else if a < 0x0100 then none
  else if a < 0x0200 then bankRead s.cfg s.ps (a - 0x0100)
  else if a < 0x0300 then bankRead s.cfg s.pa (a - 0x0200)
  else if a < 0x0340 then s.historyWord (a - 0x0300)
  else if a = 0x0340 then some s.pv.cnt
  else if a = 0x0341 then some s.pv.mute
  else if a = 0x0342 then some s.env.last
  else if a = 0x0343 then some s.env.gain
  else if a = 0x0344 then some s.env.pos
  else if a = 0x0345 then some (BitVec.ofNat 32 s.env.sum.toNat)
  else if a = 0x0346 then some (BitVec.ofNat 32 (s.env.sum.toNat / 2 ^ 32))
  else none

/-- A bus read while idle (R73). -/
def readAccess (a : Nat) (s : State) : State :=
  if a = mdataAddr then mdataRead s
  else
    match s.regRead a with
    | some w => s.answer (.readDone w false)
    | none => s.rejectBus .badid a false

/-- `PS[p] <- w` (R38). -/
def State.setShadow (s : State) (p : Nat) (w : Word) : State := { s with ps := s.ps.setIfInBounds p w }

/-- A host write of `w` to shadow index `p` while idle: an unknown ID and a bad C_MODE enumerator are E_BADID, a word
outside its range is E_RANGE, a negative C_KNEE is stored as 0 (R38, R39). -/
def shadowWrite (p : Nat) (w : Word) (s : State) : State :=
  match paramSpec s.cfg p with
  | none => s.rejectBus .badid (0x0100 + p) true
  | some sp =>
    if p = pCMode ∧ 3 < w.toNat then s.rejectBus .badid (0x0100 + p) true
    else if p = pCKnee then (s.setShadow p (BitVec.ofInt 32 (max 0 w.toInt))).answer (.writeDone false)
    else if sp.legal w then (s.setShadow p w).answer (.writeDone false)
    else s.rejectBus .range (0x0100 + p) true

/-- FLAGS is write-one-to-clear; zeros leave bits alone and bits 31:8 are ignored (R30). -/
def State.clearFlags (s : State) (w : Word) : State := { s with flags := s.flags &&& ~~~(BitVec.ofNat 8 w.toNat) }

/-- A bus write of `w` to an address other than CMD while idle (R74). -/
def writeAccess (a : Nat) (w : Word) (s : State) : State :=
  if a = 0x0002 then (s.clearFlags w).answer (.writeDone false)
  else if a = 0x0006 then ({ s with msel := w } : State).answer (.writeDone false)
  else if a = 0x0007 then ({ s with maddr := w } : State).answer (.writeDone false)
  else if a = mdataAddr then mdataWrite w s
  else if 0x0010 ≤ a ∧ a < 0x0020 then (s.setV (a - 0x0010) w).answer (.writeDone false)
  else if 0x0020 ≤ a ∧ a < 0x0028 then (s.setX (a - 0x0020) w).answer (.writeDone false)
  else if 0x0040 ≤ a ∧ a < 0x0060 then
    ({ s with dlreq := s.dlreq.setIfInBounds (a - 0x0040) w } : State).answer (.writeDone false)
  else if 0x0100 ≤ a ∧ a < 0x0200 then shadowWrite (a - 0x0100) w s
  else s.rejectBus .badid a true

/-- Did the command raise an error in the checks that are part of the CMD write itself (R256)?  E_ALLOC is raised
later, in step 5 of R112. -/
def State.rejected (s : State) : Bool := !s.cmdok && s.lasterr != some .alloc

/-- A host write of `w` to CMD while idle (R27, R112): a word that does not decode raises E_BADOP; a command whose
checks fail is rejected at once; any other runs, and while `lag` transactions are still to find the unit busy its
state changes are still to come (R80, R82). -/
def startCommand (w : Word) (lag : Nat) (s : State) : Host.Outcome State Fault Refusal :=
  match decode w with
  | .error _ => .next (s.raise .badop w)
  | .ok i =>
    if lag = 0 then exec i s
    else
      match exec i s with
      | .next t => if t.rejected then .next t else .next { s with running := some ⟨i, lag⟩ }
      | .fault f => .fault f
      | .refused r => .refused r

/-- Will the command in progress have set SAT when it completes (R81)? -/
def State.satAhead (s : State) (r : Running) : Bool :=
  match exec r.instr s with
  | .next t => t.sat
  | .fault _ => false
  | .refused _ => false

/-- FLAGS read while BUSY: the command in progress may or may not have set its SAT already (R81); a free value. -/
def State.pollFlags (s : State) (r : Running) : State :=
  { s.noteSat (Config.satEarly s.polls && s.satAhead r) with polls := s.polls + 1 }

/-- A bus read while BUSY: ID, STATUS, FLAGS, LASTERR and ERRINFO answer, every other is E_BUSY (R81, R255). -/
def busyRead (r : Running) (a : Nat) (s : State) : State :=
  if a = 0x0000 then s.answer (.readDone idWord false)
  else if a = 0x0001 then s.answer (.readDone s.statusWord false)
  else if a = 0x0002 then (s.pollFlags r).answer (.readDone (s.pollFlags r).flagsWord false)
  else if a = 0x0003 then s.answer (.readDone s.lasterrWord false)
  else if a = 0x0004 then s.answer (.readDone s.errinfo false)
  else s.rejectBus .busy a false

/-- After a transaction that found the unit busy: the last such transaction is followed by the command's state
changes (R80), any other leaves it in progress (R82). -/
def settle (r : Running) (s : State) : Host.Outcome State Fault Refusal :=
  if r.left ≤ 1 then exec r.instr s
  else .next { s with running := some { r with left := r.left - 1 } }

/-- A bus read (R73). -/
def readStep (a : Nat) (s : State) : Host.Outcome State Fault Refusal :=
  match s.running with
  | some r => settle r (busyRead r a s)
  | none => .next (readAccess a s)

/-- A bus write (R74).  The CMD write itself completes with `h_err = 0` whatever its command does (R256). -/
def writeStep (a : Nat) (w : Word) (lag : Nat) (s : State) : Host.Outcome State Fault Refusal :=
  match s.running with
  | some r => settle r (s.rejectBus .busy a true)
  | none =>
    if a = cmdAddr then startCommand w lag (s.answer (.writeDone false))
    else .next (writeAccess a w s)

/-- The hardware reset (R280): the "after reset" column of R51, a command in progress abandoned, and new unspecified
words in DM, XBUF and YBUF (R281).  The host's later inputs are not the unit's and stay. -/
def State.hardReset (s : State) : State :=
  { State.resetOf s.cfg (s.epoch + 1) with host := s.host, polls := s.polls }

/-- A bridge's access is one of the unit's when it is a whole aligned word, at byte address `4·a` (R71, R75). -/
def wholeWord (byteAddr : BitVec 18) (bytes : Nat) : Bool := byteAddr.toNat % 4 == 0 && bytes == 4

/-- One input of the host (00_scope.md section 7). -/
def hostStep (op : HostOp) (s : State) : Host.Outcome State Fault Refusal :=
  match op with
  | .read a => readStep a.toNat s
  | .write a w lag => writeStep a.toNat w lag s
  | .reset => .next s.hardReset
  | .bridgeRead b n => if wholeWord b n then readStep (b.toNat / 4) s else .refused .notWholeWord
  | .bridgeWrite b n w lag => if wholeWord b n then writeStep (b.toNat / 4) w lag s else .refused .notWholeWord

/-- No input is waiting: a command in progress completes (R82: every command ends in finite time), and an idle unit
holds its state (R87, R266). -/
def idleStep (s : State) : Host.Outcome State Fault Refusal :=
  match s.running with
  | some r => exec r.instr s
  | none => .next s

/-- One step: the next input of the host (00_scope.md section 7). -/
def transact (s : State) : Host.Outcome State Fault Refusal :=
  if !s.cfg.ok then .fault .notAnInstance
  else
    match s.host with
    | [] => idleStep s
    | op :: rest => hostStep op { s with host := rest }

end Sys2Proof.Machine
end

