-- ==== Sys2Proof/Machine/Step.lean ====
section
/-! DEFINITION. The step function, and the state in which the next step runs a given command word.

The unit fetches nothing (10_state.md R28): the command to execute is the word the host writes to CMD, so the next
command stands at the head of the host's inputs. -/

namespace Sys2Proof.Machine

/-- One step of the unit: one input of the host (00_scope.md section 7), in Machine/Bus.lean. -/
def step (s : State) : Host.Outcome State Fault Refusal := Sys2Proof.Machine.transact s

/-- `s`, idle, with a CMD write of the word `w` as the host's next input and no busy time, so that the very next step
decodes and runs it (R27). -/
def State.withFetchWord (s : State) (nbits w : Nat) : State :=
  { s with
    running := none
    host := .write 0x0005 (BitVec.ofNat 32 (w % 2 ^ nbits)) 0 :: s.host }

end Sys2Proof.Machine
end

