-- ==== Sys2Proof/Safety.lean ====
section
/-! DEFINITION. What counts as a safe run of the unit, in the terms the statements use: the invariants of a state, the
conditions under which a command is carried out, and what a rejected command leaves.

The unit never stops on its own (20_memory.md R82; 60_exceptions.md R261), so a safe run is one that never faults or
refuses, and every state of it keeps the invariants that 10_state.md gives. -/

namespace Sys2Proof.Safety

open Sys2Proof.Machine

/-- The step from `s` completes. -/
def Completes (s : State) : Prop := ∃ t, step s = .next t

/-- The next input of the host, if any, is one the unit can see: a whole aligned word (20_memory.md R75). -/
def visible (op : HostOp) : Bool :=
  match op with
  | .bridgeRead b n => wholeWord b n
  | .bridgeWrite b n _ _ => wholeWord b n
  | .read _ => true
  | .write _ _ _ => true
  | .reset => true

/-- Every memory is in its canonical form. -/
def memoriesCanonical (s : State) : Prop :=
  (s.dm.wf = true ∧ s.xbuf.wf = true ∧ s.ybuf.wf = true ∧ s.env.win.wf = true) ∧
  (s.pv.fr.wf = true ∧ s.pv.fi.wf = true ∧ s.pv.inf.wf = true ∧ s.pv.outf.wf = true ∧ s.pv.acc.wf = true) ∧
  (s.pv.lastph.wf = true ∧ s.pv.sumph.wf = true ∧ s.pv.amag.wf = true ∧ s.pv.afrq.wf = true ∧
    s.pv.smag.wf = true ∧ s.pv.sfrq.wf = true)

/-- The sum of the lengths of the lines below `d`. -/
def lineOffset (s : State) (d : Nat) : Nat := sumUpTo d fun e => (s.dlLen e).toNat

/-- The invariants of the delay lines (10_state.md R35): a length is 0 or a power of two, and not 0 once STATUS.DEVOK
is 1; the lines are packed in ascending order from word 0; they fit the arena. -/
structure LinesPacked (s : State) : Prop where
  length : ∀ d, d < ndl → (s.dlLen d).toNat = 0 ∨ ∃ k, k ≤ 31 ∧ (s.dlLen d).toNat = 2 ^ k
  allocated : s.devok = true → ∀ d, d < ndl → (s.dlLen d).toNat ≠ 0
  base : ∀ d, d < ndl → (s.dlBase d).toNat = lineOffset s d
  fits : lineOffset s ndl ≤ s.cfg.dmWords

/-- Every word of the delay lines has been cleared since reset (70_reset_and_hazards.md R281). -/
def arenaCleared (s : State) : Prop := lineOffset s ndl ≤ s.dm.zeroed

/-- The table of 10_state.md R37, row by row as the spec prints it: every defined index with its format, its legal
range and its reset value.  Machine/Params.lean is not consulted. -/
def r37 (c : Config) : List (Nat × ParamSpec) :=
  ((List.range 16).flatMap fun f =>
    [(8 * f, ⟨.q, -2147483648, 2147483647, 16777216⟩), (8 * f + 1, ⟨.q, -2147483648, 2147483647, 0⟩),
     (8 * f + 2, ⟨.q, -2147483648, 2147483647, 0⟩), (8 * f + 3, ⟨.q, -2147483648, 2147483647, 0⟩),
     (8 * f + 4, ⟨.q, -2147483648, 2147483647, 0⟩)]) ++
  ((List.range 8).flatMap fun a =>
    [(0x80 + 4 * a, ⟨.u, 0, 31, 0⟩), (0x81 + 4 * a, ⟨.u, 0, 2147483647, 0⟩),
     (0x82 + 4 * a, ⟨.q, -16777216, 16777216, 0⟩)]) ++
  [(0xA0, ⟨.q, -16777216, 16777216, 16777216⟩), (0xA1, ⟨.q, -16777216, 16777216, 0⟩), (0xA2, ⟨.q, 0, 16777216, 0⟩)] ++
  ((List.range 4).flatMap fun k =>
    [(0xA4 + k, ⟨.u, 0, 31, 0⟩), (0xA8 + k, ⟨.u, 0, 2147483647, 0⟩), (0xAC + k, ⟨.u, 0, 15, 0⟩),
     (0xB0 + k, ⟨.u, 0, 7, 0⟩)]) ++
  [(0xC0, ⟨.q, 0, 2147483647, 16777216⟩), (0xC1, ⟨.q, 0, 2147483647, 16777216⟩),
   (0xC2, ⟨.q, -83886080, 33554432, 0⟩), (0xC3, ⟨.q, 0, 16777216, 0⟩), (0xC4, ⟨.q, -2147483648, 2147483647, 0⟩),
   (0xC5, ⟨.q, 0, 2147483647, 0⟩), (0xC6, ⟨.q, 0, 2147483647, 0⟩), (0xC7, ⟨.q, 0, 2147483647, 0⟩),
   (0xC8, ⟨.q, 0, 2147483647, 0⟩), (0xC9, ⟨.q, 0, 2147483647, 0⟩), (0xCA, ⟨.e, 0, 3, 0⟩),
   (0xCB, ⟨.u, 1, c.nchMax, 1⟩)] ++
  [(0xD0, ⟨.q, 4194304, 67108864, 16777216⟩),
   (0xD1, ⟨.q, 0, 2147483647, (16 * 16777216 + 3 * (c.pvOsamp : Int)) / (6 * c.pvOsamp)⟩),
   (0xD8, ⟨.u, 1, c.nchMax, 1⟩), (0xD9, ⟨.q, 0, 2147483647, 0⟩)] ++
  (((List.range 16).filter fun k => decide (k < c.nchMax)).map fun k =>
    (0xE0 + k, ⟨.q, -2147483648, 2147483647, 0⟩))

/-- The sizes of the 18 window spaces in window words, in the order of their numbers (20_memory.md R77, R86). -/
def windowSizes (c : Config) : List Nat :=
  [c.dmWords, c.nchMax * c.blockMax, c.nchMax * c.blockMax, c.pvN, c.pvN, c.pvN, c.pvN / c.pvOsamp, c.pvN,
   c.pvN / 2 + 1, c.pvN / 2 + 1, c.pvN / 2 + 1, 2 * (c.pvN / 2 + 1), c.pvN / 2 + 1, 2 * (c.pvN / 2 + 1), c.rmsWin,
   c.pvN / 2, c.pvN / 2, c.pvN]

/-- A bank's word at every defined index is inside its legal range, and C_KNEE is not negative (10_state.md R37 to
R39). -/
def bankLegal (c : Config) (bank : Vector Word 256) : Prop :=
  (∀ p sp, paramSpec c p = some sp → ∃ w, bank[p]? = some w ∧ sp.legal w = true) ∧
    ∃ w, bank[pCKnee]? = some w ∧ 0 ≤ w.toInt

/-- Both parameter banks are legal (10_state.md, the invariant after R39). -/
def paramsLegal (s : State) : Prop := bankLegal s.cfg s.ps ∧ bankLegal s.cfg s.pa

/-- `PV_L <= PVCNT < PV_N` and `PVMUTE <= FIFO_LATENCY` (10_state.md R43). -/
def fifoInRange (s : State) : Prop :=
  s.cfg.pvL ≤ s.pv.cnt.toNat ∧ s.pv.cnt.toNat < s.cfg.pvN ∧ s.pv.mute.toNat ≤ s.cfg.fifoLatency

/-- RMSPOS is an index of the window, every entry of the window is in [0, 2^31 - 1], and RMSSUM is the sum of the
entries (10_state.md R45, R46). -/
def rmsExact (s : State) : Prop :=
  s.env.pos.toNat < s.cfg.rmsWin ∧
  (∀ j, j < s.cfg.rmsWin → (s.env.win.read 0 j).toNat < 2 ^ 31) ∧
  s.env.sum.toNat = sumUpTo s.cfg.rmsWin fun j => (s.env.win.read 0 j).toNat

/-- What a command's operands must name (60_exceptions.md R253), command by command.  `execXxx` is not consulted. -/
def operandsExist (i : Instr) (s : State) : Prop :=
  match i with
  | .nop => True
  | .init => True
  | .devupd => True
  | .commit => True
  | .ldx _ ch x => ch < s.cfg.nchMax ∧ (s.getX x).toNat < s.cfg.blockMax
  | .acy ch x _ => ch < s.cfg.nchMax ∧ (s.getX x).toNat < s.cfg.blockMax
  | .xadd d _ => d ≤ 7
  | .mixo x _ => (s.getX x).toNat < s.cfg.blockMax
  | .rdwr _ _ _ => True
  | .rdrd _ _ _ => True
  | .rdrtw _ _ _ _ _ => True
  | .bq2 _ f _ => f < nbq
  | .bq1 _ f _ => f < nbq
  | .ap _ a _ _ => a < nap
  | .bqblk f ci co n => f < nbq ∧ ci < s.cfg.nchMax ∧ co < s.cfg.nchMax ∧ n ≤ s.cfg.blockMax
  | .hhmix d vs => d ≤ 12 ∧ vs ≤ 12
  | .rotmix d vs => d ≤ 12 ∧ vs ≤ 12
  | .fdnstep d _ vs => d ≤ 12 ∧ vs ≤ 12
  | .fftbrev => True
  | .bfly xa xb xm inv =>
    xm ≤ 7 ∧ inv ≤ 1 ∧ (s.getX xa).toNat < s.cfg.pvN ∧ (s.getX xb).toNat < s.cfg.pvN ∧
      (s.getX xm).toNat < s.cfg.pvN / 2
  | .fft inv => inv ≤ 1
  | .pvwin => True
  | .pvana => True
  | .pvshift => True
  | .pvsyn => True
  | .pvola => True
  | .pshblk ci co n => ci < s.cfg.nchMax ∧ co < s.cfg.nchMax ∧ n ≤ s.cfg.blockMax
  | .envlink _ x => (s.getX x).toNat < s.cfg.blockMax
  | .envrms _ _ => True
  | .envfol _ _ => True
  | .envgain _ _ => True
  | .cmpblk n => n ≤ s.cfg.blockMax

/-- The commands that touch a delay line (60_exceptions.md R258). -/
def touchesLine (i : Instr) : Prop :=
  match i with
  | .rdwr _ _ _ => True
  | .rdrd _ _ _ => True
  | .rdrtw _ _ _ _ _ => True
  | .ap _ _ _ _ => True
  | .fdnstep _ _ _ => True
  | _ => False

/-- The commands with a destination tap register or group (30_encoding.md R107). -/
def writesTap (i : Instr) : Prop :=
  match i with
  | .ldx _ _ _ => True
  | .rdrd _ _ _ => True
  | .rdrtw _ _ _ _ _ => True
  | .bq2 _ _ _ => True
  | .bq1 _ _ _ => True
  | .ap _ _ _ _ => True
  | .hhmix _ _ => True
  | .rotmix _ _ => True
  | .fdnstep _ _ _ => True
  | .envlink _ _ => True
  | .envrms _ _ => True
  | .envfol _ _ => True
  | .envgain _ _ => True
  | _ => False

/-- The one command with a check of its own after the device check: the arena's size (R257, R259). -/
def isDevupd (i : Instr) : Prop := i = .devupd

/-- `need[d] = DLREQ[d] + DL_SLACK` (40_system.md R122). -/
def need (s : State) (d : Nat) : Nat := (s.dlReq d).toNat + s.cfg.dlSlack

/-- `n` is the least power of two at or above `v` (00_scope.md R11). -/
def LeastPow2 (v n : Nat) : Prop := (∃ k, n = 2 ^ k) ∧ v ≤ n ∧ ∀ k, v ≤ 2 ^ k → n ≤ 2 ^ k

/-- What a command rejected with the error numbered `code` leaves (60_exceptions.md R256): the error record, CMDOK 0,
BUSY 0, and nothing else. -/
def rejectedWith (e : Err) (code : Nat) (info : Word) (s : State) : State :=
  { s with
    flags := s.flags ||| BitVec.ofNat 8 (2 ^ code), lasterr := some e, errinfo := info
    cmdok := false, running := none }

/-- The bits of FLAGS that stand for errors are as before (10_state.md R30). -/
def errorBitsKept (s t : State) : Prop := ∀ k, 1 ≤ k → t.flags.getLsbD k = s.flags.getLsbD k

/-- The two history words and the last output of a two-pole bank (10_state.md R40). -/
structure History where
  z1 : Word
  z2 : Word
  y : Word
deriving DecidableEq, Repr

/-- The five coefficients of a biquad bank (10_state.md R37). -/
structure Coeffs where
  b0 : Int
  b1 : Int
  b2 : Int
  a1 : Int
  a2 : Int
deriving DecidableEq, Repr

/-- Bank `f`'s coefficients in the active bank. -/
def coeffs (s : State) (f : Nat) : Coeffs :=
  ⟨s.parQ (8 * f), s.parQ (8 * f + 1), s.parQ (8 * f + 2), s.parQ (8 * f + 3), s.parQ (8 * f + 4)⟩

/-- Bank `f`'s history. -/
def history (s : State) (f : Nat) : History := ⟨s.z1 f, s.z2 f, s.yLast f⟩

/-- The first line of R150 before it is narrowed. -/
def tapOut (k : Coeffs) (h : History) (x : Int) : Int := rnd 24 (k.b0 * x + h.z1.toInt * 2 ^ 24)

/-- The second line of R150 before it is narrowed, with the narrowed output `y`. -/
def tapN1 (k : Coeffs) (h : History) (x y : Int) : Int := rnd 24 (k.b1 * x - k.a1 * y + h.z2.toInt * 2 ^ 24)

/-- The third line of R150 before it is narrowed. -/
def tapN2 (k : Coeffs) (x y : Int) : Int := rnd 24 (k.b2 * x - k.a2 * y)

/-- One step of the transposed direct-form-II section (42_filters.md R150). -/
def tap (k : Coeffs) (h : History) (x : Int) : History :=
  let y := sat32 (tapOut k h x)
  ⟨sat32 (tapN1 k h x y.toInt), sat32 (tapN2 k x y.toInt), y⟩

/-- Does any of its three narrowings clip? -/
def tapClips (k : Coeffs) (h : History) (x : Int) : Bool :=
  let y := (sat32 (tapOut k h x)).toInt
  clips (tapOut k h x) || clips (tapN1 k h x y) || clips (tapN2 k x y)

/-- The history after the samples `x 0 .. x (n-1)` (42_filters.md R154). -/
def tapRun (k : Coeffs) (h : History) (x : Nat → Int) : Nat → History
  | 0 => h
  | n + 1 => tap k (tapRun k h x n) (x n)

/-- The magnitude collected in destination bin `j` from the source bins below `n` (44_phase_vocoder.md R182). -/
def shiftedMag (s : State) (j : Nat) : Nat → Word
  | 0 => 0
  | k + 1 =>
    if shiftTarget s k = j then sat32 ((shiftedMag s j k).toInt + (s.pv.amag.read 0 k).toInt)
    else shiftedMag s j k

/-- The frequency of destination bin `j` after the source bins below `n`: the last writer wins (R182). -/
def shiftedFreq (s : State) (j : Nat) : Nat → BitVec 48
  | 0 => 0
  | k + 1 =>
    if shiftTarget s k = j then
      BitVec.ofInt 48 (rnd 24 ((s.pv.afrq.read 0 k).toInt * s.parQ pPvRatio))
    else shiftedFreq s j k

/-- One sample of CMPBLK's chain, LINK, RMS (in RMS mode), FOLLOW, GAIN (45_envelope.md R207): the gain word of sample
`i` and the state of the compressor after it. -/
def chain (i : Nat) (s : State) : Word × State :=
  let p := linkStep i s
  let r := if s.rmsMode then rmsStep p.1.toInt p.2 else p
  let e := followStep r.1.toInt r.2
  gainStep e.1.toInt e.2

/-- The state after the chain alone, with no output, over the samples below `n`. -/
def chainRun (s : State) : Nat → State
  | 0 => s
  | n + 1 => (chain n (chainRun s n)).2

/-- `gt` of sample `i` (45_envelope.md R207). -/
def chainGain (s : State) (i : Nat) : Int := rnd 24 (s.parQ pCPost * (chain i (chainRun s i)).1.toInt)

end Sys2Proof.Safety
end

