-- ==== Sys2Proof/Certificates/Slice0/Obligations.lean ====
section
/-! DEFINITION. The statements for the provers.  Each docstring names the rules of spec/ it rests on; a clause that is
the model's own choice names its entry of notes/assumptions. -/

open Sys2Proof Sys2Proof.Machine Sys2Proof.Safety

/-! ### Encoding (30_encoding.md) -/

/-- R100, R110: encoding and decoding agree, for all 32 commands and every value of every field: the word assembled
from a well-formed command decodes to that command, and re-assembling the fields of an accepted word gives back the
word. -/
def Obligations.DecodingAndEncodingAgree : Prop :=
  (∀ i : Instr, i.wellFormed = true → decode (encode i) = .ok i) ∧
  (∀ (w : Word) (i : Instr), decode w = .ok i → i.wellFormed = true ∧ encode i = w)

/-- R100, R107, R108: a word is a command exactly when a row of the opcode map has its top byte and its mask and match
accept it; there is then one such row, and it is the row of the command read.  Every other word is refused. -/
def Obligations.DecoderAcceptsExactlyTheOpcodeMap : Prop :=
  ∀ w : Word,
    (∀ i, decode w = .ok i → ∃ r ∈ opcodeMap, r.opcode = i.opcode ∧ w.toNat / 2 ^ 24 = r.opcode ∧ w &&& r.mask = r.value) ∧
    (∀ r ∈ opcodeMap, w.toNat / 2 ^ 24 = r.opcode → w &&& r.mask = r.value →
      ∃ i, decode w = .ok i ∧ i.opcode = r.opcode) ∧
    (∀ r ∈ opcodeMap, ∀ q ∈ opcodeMap, r.opcode = q.opcode → r = q)

/-- R101, R107, R108: words written out in the examples of the spec, at least one for each format and for each group
of opcodes, and two words that are no command, with what they stand for. -/
def Obligations.ExampleWordsDecodeAsTheSpecSays : Prop :=
  decode 0x00000000 = .ok .nop ∧
  decode 0x12420420 = .ok (.rdrtw 4 1 0 1 2) ∧
  decode 0x0A20FFFC = .ok (.xadd 2 (-4)) ∧
  decode 0x28011804 = .ok (.bqblk 3 0 1 4) ∧
  decode 0x41210400 = .ok (.bfly 0 1 2 1) ∧
  decode 0x22544000 = .ok (.ap 5 0 2 4) ∧
  decode 0x32400000 = .ok (.fdnstep 4 0 0) ∧
  decode 0x58000400 = .ok (.cmpblk 1024) ∧
  decode 0x0C000000 = .error (.unassignedOpcode 0x0C) ∧
  decode 0x00000001 = .error (.reservedField "NOP")

/-! ### A step of the unit (00_scope.md section 7, 10_state.md, 20_memory.md) -/

/-- R27, R100, R112, R256: when the host's next input is a write of `w` to CMD and the unit is idle, the step runs the
command `w` decodes to (the write itself completes with `h_err` 0), and a word that is no command raises E_BADOP. No
busy time is seen here (`lag` 0 in the first clause: log entry 3). -/
def Obligations.StepRunsTheWordWrittenToCmd : Prop :=
  ∀ (s : State) (w : Word) (lag : Nat) (rest : List HostOp),
    s.cfg.ok = true → s.running = none → s.host = .write 0x0005 w lag :: rest →
    (∀ i, decode w = .ok i → lag = 0 →
      step s = exec i { s with host := rest, resp := some (.writeDone false) }) ∧
    (∀ e, decode w = .error e →
      step s = .next (rejectedWith .badop 3 w { s with host := rest, resp := some (.writeDone false) }))

/-- R26, R80 to R82, R255: with a busy time of `lag` later transactions (log entry 3), a command whose operand and
device checks pass leaves the unit busy and changes nothing yet, a DEVUPD that will raise E_ALLOC included (log entry
4: that error comes when the command completes); while it is busy a read of ID, STATUS, LASTERR or ERRINFO answers, a
read of FLAGS answers a lower bound of the FLAGS after the command (SAT may be set already: log entry 5), and every
other access is refused with E_BUSY and is not queued; the last of those transactions is followed by the command.  A
bridge's access is that of its word (EveryVisibleTransactionCompletes). -/
def Obligations.BusyUnitAnswersFiveReadsAndRefusesTheRest : Prop :=
  (∀ (s : State) (w : Word) (i : Instr) (lag : Nat) (rest : List HostOp),
    s.cfg.ok = true → s.running = none → s.host = .write 0x0005 w (lag + 1) :: rest → decode w = .ok i →
    operandsExist i s → (touchesLine i → s.devok = true) →
    step s = .next { s with host := rest, resp := some (.writeDone false), running := some ⟨i, lag + 1⟩ }) ∧
  (∀ (s : State) (r : Running) (op : HostOp) (rest : List HostOp),
    s.cfg.ok = true → s.running = some r → s.host = op :: rest →
    let after : State → Host.Outcome State Fault Refusal := fun t =>
      if r.left ≤ 1 then exec r.instr t else .next { t with running := some ⟨r.instr, r.left - 1⟩ }
    (op = .read 0x0000 → step s = after { s with host := rest, resp := some (.readDone 0x42510007 false) }) ∧
    (op = .read 0x0001 → step s = after
      { s with host := rest, resp := some (.readDone
        (BitVec.ofNat 32 (1 + (if s.devok then 2 else 0) + (if s.cmdok then 4 else 0))) false) }) ∧
    (op = .read 0x0002 → ∃ b : Bool,
      step s = after
        { s with host := rest, polls := s.polls + 1, flags := if b then s.flags ||| 1 else s.flags
                 resp := some (.readDone ((if b then s.flags ||| 1 else s.flags).setWidth 32) false) } ∧
      (b = true → ∃ t, exec r.instr { s with host := rest } = .next t ∧ t.sat = true)) ∧
    (op = .read 0x0003 → step s = after
      { s with host := rest, resp := some (.readDone (s.lasterr.elim 0 fun e => BitVec.ofNat 32 e.code) false) }) ∧
    (op = .read 0x0004 → step s = after { s with host := rest, resp := some (.readDone s.errinfo false) }) ∧
    (∀ a, op = .read a → 5 ≤ a.toNat → step s = after
      { s with host := rest, resp := some (.readDone 0 true), flags := s.flags ||| 128, lasterr := some .busy,
               errinfo := BitVec.ofNat 32 a.toNat }) ∧
    (∀ a w lag, op = .write a w lag → step s = after
      { s with host := rest, resp := some (.writeDone true), flags := s.flags ||| 128, lasterr := some .busy,
               errinfo := BitVec.ofNat 32 (a.toNat + 0x80000000) }))

/-- R20, R21, R23 to R36, R73: what an idle unit's registers answer to a read; nothing else changes.  CAP3 of an
instance whose DL_SLACK needs more than 16 bits is a free value (log entry 1). -/
def Obligations.IdleReadsReturnTheRegisters : Prop :=
  ∀ (s : State) (a : BitVec 16) (rest : List HostOp),
    s.cfg.ok = true → s.running = none → s.host = .read a :: rest →
    let gives : Word → Prop := fun w => step s = .next { s with host := rest, resp := some (.readDone w false) }
    let n := a.toNat
    (n = 0x0000 → gives 0x42510007) ∧
    (n = 0x0001 → gives (BitVec.ofNat 32 ((if s.devok then 2 else 0) + (if s.cmdok then 4 else 0)))) ∧
    (n = 0x0002 → gives (s.flags.setWidth 32)) ∧
    (n = 0x0003 → gives (s.lasterr.elim 0 fun e => BitVec.ofNat 32 e.code)) ∧
    (n = 0x0004 → gives s.errinfo) ∧
    (n = 0x0005 → gives 0) ∧
    (n = 0x0006 → gives s.msel) ∧
    (n = 0x0007 → gives s.maddr) ∧
    (n = 0x0009 → gives (BitVec.ofNat 32 (s.cfg.blockMax + s.cfg.nchMax * 65536))) ∧
    (n = 0x000A → gives (BitVec.ofNat 32 (s.cfg.pvN + s.cfg.pvOsamp * 65536))) ∧
    (n = 0x000B → gives (BitVec.ofNat 32 s.cfg.dmWords)) ∧
    (n = 0x000C → ∃ w, gives w ∧
      (s.cfg.dlSlack < 65536 → w = BitVec.ofNat 32 (s.cfg.rmsWin + s.cfg.dlSlack * 65536))) ∧
    (∀ k, k < 16 → n = 0x0010 + k → gives (s.getV k)) ∧
    (∀ k, k < 8 → n = 0x0020 + k → gives (s.getX k)) ∧
    (∀ k, k < 32 → n = 0x0040 + k → gives (s.dlReq k)) ∧
    (∀ k, k < 32 → n = 0x0060 + k → gives (s.dlBase k)) ∧
    (∀ k, k < 32 → n = 0x0080 + k → gives (s.dlLen k)) ∧
    (∀ p sp w, paramSpec s.cfg p = some sp → s.ps[p]? = some w → n = 0x0100 + p → gives w) ∧
    (∀ p sp w, paramSpec s.cfg p = some sp → s.pa[p]? = some w → n = 0x0200 + p → gives w) ∧
    (∀ f, f < 16 → n = 0x0300 + 4 * f → gives (s.z1 f)) ∧
    (∀ f, f < 16 → n = 0x0301 + 4 * f → gives (s.z2 f)) ∧
    (∀ f, f < 16 → n = 0x0302 + 4 * f → gives (s.yLast f)) ∧
    (n = 0x0340 → gives s.pv.cnt) ∧
    (n = 0x0341 → gives s.pv.mute) ∧
    (n = 0x0342 → gives s.env.last) ∧
    (n = 0x0343 → gives s.env.gain) ∧
    (n = 0x0344 → gives s.env.pos) ∧
    (n = 0x0345 → gives (s.env.sum.setWidth 32)) ∧
    (n = 0x0346 → gives ((s.env.sum >>> 32).setWidth 32))

/-- R20, R21, R30, R33, R34, R74: what a write to a plain register of an idle unit stores; FLAGS is
write-one-to-clear. -/
def Obligations.IdleWritesStoreTheWord : Prop :=
  ∀ (s : State) (a : BitVec 16) (w : Word) (lag : Nat) (rest : List HostOp),
    s.cfg.ok = true → s.running = none → s.host = .write a w lag :: rest →
    let gives : State → Prop := fun t => step s = .next { t with host := rest, resp := some (.writeDone false) }
    let n := a.toNat
    (n = 0x0002 → gives { s with flags := s.flags &&& ~~~(w.setWidth 8) }) ∧
    (n = 0x0006 → gives { s with msel := w }) ∧
    (n = 0x0007 → gives { s with maddr := w }) ∧
    (∀ k : Fin 16, n = 0x0010 + k → gives { s with v := s.v.set k w }) ∧
    (∀ k : Fin 8, n = 0x0020 + k → gives { s with x := s.x.set k w }) ∧
    (∀ k : Fin 32, n = 0x0040 + k → gives { s with dlreq := s.dlreq.set k w })

/-- R23, R76, R251: an idle unit refuses with E_BADID, changing nothing but the error record, every read of a reserved
address or unknown parameter index (it returns 0), and every write there or to a read-only register. -/
def Obligations.IdleUnitRefusesWhatTheMapDoesNotAllow : Prop :=
  ∀ (s : State) (a : BitVec 16) (rest : List HostOp), s.cfg.ok = true → s.running = none →
    let n := a.toNat
    let reserved : Prop :=
      (0x000D ≤ n ∧ n < 0x0010) ∨ (0x0028 ≤ n ∧ n < 0x0040) ∨ (0x00A0 ≤ n ∧ n < 0x0100) ∨
      (0x0100 ≤ n ∧ n < 0x0200 ∧ paramSpec s.cfg (n - 0x0100) = none) ∨
      (0x0200 ≤ n ∧ n < 0x0300 ∧ paramSpec s.cfg (n - 0x0200) = none) ∨
      (0x0300 ≤ n ∧ n < 0x0340 ∧ n % 4 = 3) ∨ 0x0347 ≤ n
    let readOnly : Prop :=
      n = 0 ∨ n = 1 ∨ n = 3 ∨ n = 4 ∨ (0x0009 ≤ n ∧ n ≤ 0x000C) ∨ (0x0060 ≤ n ∧ n < 0x00A0) ∨ (0x0200 ≤ n ∧ n < 0x0347)
    (s.host = .read a :: rest → reserved →
      step s = .next { s with host := rest, resp := some (.readDone 0 true), flags := s.flags ||| 4,
                              lasterr := some .badid, errinfo := BitVec.ofNat 32 n }) ∧
    (∀ w lag, s.host = .write a w lag :: rest → reserved ∨ readOnly →
      step s = .next { s with host := rest, resp := some (.writeDone true), flags := s.flags ||| 4,
                              lasterr := some .badid, errinfo := BitVec.ofNat 32 (n + 0x80000000) })

/-- R37 to R39, R252: the known indices are those of the table of R37, with its formats, legal ranges and reset
values; a write to a known shadow index stores the word when it is in the legal range, refuses it with E_RANGE
otherwise; a bad C_MODE enumerator is E_BADID; a negative C_KNEE is stored as 0. -/
def Obligations.ShadowWritesAreValidated : Prop :=
  (∀ (c : Config) (p : Nat) (sp : ParamSpec), paramSpec c p = some sp ↔ (p, sp) ∈ r37 c) ∧
  ∀ (s : State) (a : BitVec 16) (w : Word) (lag : Nat) (rest : List HostOp) (p : Fin 256) (sp : ParamSpec),
    s.cfg.ok = true → s.running = none → s.host = .write a w lag :: rest → a.toNat = 0x0100 + p →
    paramSpec s.cfg p = some sp →
    let value : Int := match sp.fmt with
      | .q => w.toInt
      | .u => w.toNat
      | .e => w.toNat
    let refused : Err → BitVec 8 → State := fun e bit =>
      { s with host := rest, resp := some (.writeDone true), flags := s.flags ||| bit, lasterr := some e,
               errinfo := BitVec.ofNat 32 (0x80000100 + p) }
    let stored : Word → State := fun u =>
      { s with host := rest, resp := some (.writeDone false), ps := s.ps.set p u }
    (p.val = 0xCA → 3 < w.toNat → step s = .next (refused .badid 4)) ∧
    (p.val = 0xC4 → w.toInt < 0 → step s = .next (stored 0)) ∧
    (p.val ≠ 0xCA → ¬(sp.lo ≤ value ∧ value ≤ sp.hi) → step s = .next (refused .range 2)) ∧
    (sp.lo ≤ value → value ≤ sp.hi → (p.val = 0xC4 → 0 ≤ w.toInt) → step s = .next (stored w))

/-- R33, R77, R78, R86, R251, R252: an access to MDATA of an idle unit.  A space number above 17 is E_BADID, then an
index past the end of the space (its size is R86's, doubled for the frequency words) E_RANGE, then a write to any
space but XBUF and YBUF E_BADID, each changing nothing but the error record; otherwise a read returns the word
selected, a write stores it, and MADDR goes up by one. -/
def Obligations.MemoryWindowReadsWritesAndSteps : Prop :=
  ∀ (s : State) (rest : List HostOp), s.cfg.ok = true → s.running = none →
    let sp := s.msel.toNat
    let m := s.maddr.toNat
    let refused : Err → BitVec 8 → Bool → State := fun e bit isWrite =>
      { s with host := rest, resp := some (if isWrite then .writeDone true else .readDone 0 true),
               flags := s.flags ||| bit, lasterr := some e,
               errinfo := if isWrite then 0x80000008 else 0x00000008 }
    (s.host = .read 0x0008 :: rest →
      (17 < sp → step s = .next (refused .badid 4 false)) ∧
      (∀ size, (windowSizes s.cfg)[sp]? = some size →
        (size ≤ m → step s = .next (refused .range 2 false)) ∧
        (m < size → ∃ w, step s = .next { s with host := rest, resp := some (.readDone w false), maddr := s.maddr + 1 } ∧
          (sp = 0 → w = s.dmAt m) ∧ (sp = 1 → w = s.xbufAt m) ∧ (sp = 2 → w = s.ybufAt m) ∧
          (sp = 3 → w = s.pv.fr.read 0 m) ∧ (sp = 4 → w = s.pv.fi.read 0 m) ∧ (sp = 5 → w = s.pv.inf.read 0 m) ∧
          (sp = 6 → w = s.pv.outf.read 0 m) ∧ (sp = 7 → w = s.pv.acc.read 0 m) ∧
          (sp = 8 → w = s.pv.lastph.read 0 m) ∧ (sp = 9 → w = s.pv.sumph.read 0 m) ∧
          (sp = 10 → w = s.pv.amag.read 0 m) ∧ (sp = 12 → w = s.pv.smag.read 0 m) ∧
          (sp = 14 → w = s.env.win.read 0 m) ∧
          (∀ k, sp = 11 → m = 2 * k → w = (s.pv.afrq.read 0 k).setWidth 32) ∧
          (∀ k, sp = 11 → m = 2 * k + 1 → w = ((s.pv.afrq.read 0 k).extractLsb' 32 16).signExtend 32) ∧
          (∀ k, sp = 13 → m = 2 * k → w = (s.pv.sfrq.read 0 k).setWidth 32) ∧
          (∀ k, sp = 13 → m = 2 * k + 1 → w = ((s.pv.sfrq.read 0 k).extractLsb' 32 16).signExtend 32) ∧
          (sp = 15 → w.toInt = twr s.cfg m) ∧ (sp = 16 → w.toInt = twi s.cfg m) ∧ (sp = 17 → w.toInt = hann s.cfg m)))) ∧
    (∀ w lag, s.host = .write 0x0008 w lag :: rest →
      (17 < sp → step s = .next (refused .badid 4 true)) ∧
      (∀ size, (windowSizes s.cfg)[sp]? = some size →
        (size ≤ m → step s = .next (refused .range 2 true)) ∧
        (m < size → sp ≠ 1 → sp ≠ 2 → step s = .next (refused .badid 4 true)) ∧
        (m < size → sp = 1 → ∃ t, step s = .next t ∧
          t = { s with host := rest, resp := some (.writeDone false), maddr := s.maddr + 1, xbuf := t.xbuf } ∧
          ∀ j, t.xbufAt j = if j = m then w else s.xbufAt j) ∧
        (m < size → sp = 2 → ∃ t, step s = .next t ∧
          t = { s with host := rest, resp := some (.writeDone false), maddr := s.maddr + 1, ybuf := t.ybuf } ∧
          ∀ j, t.ybufAt j = if j = m then w else s.ybufAt j)))

/-- R51, R280, R281: what a reset leaves, busy or not.  The host's further inputs stay; the words of DM, XBUF and YBUF
are free values of the new reset (log entries 2 and 6). -/
def Obligations.ResetLeavesTheResetTable : Prop :=
  ∀ (s : State) (rest : List HostOp), s.cfg.ok = true → s.host = .reset :: rest →
    ∃ t, step s = .next t ∧
      t.cfg = s.cfg ∧ t.host = rest ∧ t.running = none ∧ t.statusWord = 4 ∧
      t.flags = 0 ∧ t.lasterr = none ∧ t.errinfo = 0 ∧ t.msel = 0 ∧ t.maddr = 0 ∧
      (∀ i, t.getV i = 0) ∧ (∀ i, t.getX i = 0) ∧
      (∀ d, t.dlReq d = 0 ∧ t.dlBase d = 0 ∧ t.dlLen d = 0) ∧
      (∀ p sp, paramSpec s.cfg p = some sp →
        t.ps[p]? = some (BitVec.ofInt 32 sp.reset) ∧ t.pa[p]? = some (BitVec.ofInt 32 sp.reset)) ∧
      (∀ f, t.z1 f = 0 ∧ t.z2 f = 0 ∧ t.yLast f = 0) ∧
      t.pv.cnt = BitVec.ofNat 32 s.cfg.pvL ∧ t.pv.mute = BitVec.ofNat 32 s.cfg.pvN ∧
      (∀ k, t.pv.fr.read 0 k = 0 ∧ t.pv.fi.read 0 k = 0 ∧ t.pv.inf.read 0 k = 0 ∧ t.pv.outf.read 0 k = 0 ∧
        t.pv.acc.read 0 k = 0 ∧ t.pv.lastph.read 0 k = 0 ∧ t.pv.sumph.read 0 k = 0 ∧ t.pv.amag.read 0 k = 0 ∧
        t.pv.afrq.read 0 k = 0 ∧ t.pv.smag.read 0 k = 0 ∧ t.pv.sfrq.read 0 k = 0) ∧
      t.env.last = 0xFB000000 ∧ t.env.gain = 0x01000000 ∧ t.env.pos = 0 ∧ t.env.sum = 0 ∧
      (∀ k, t.env.win.read 0 k = 0) ∧
      (∀ j, t.dmAt j = Config.unspecified 0 (s.epoch + 1) j ∧ t.xbufAt j = Config.unspecified 1 (s.epoch + 1) j ∧
        t.ybufAt j = Config.unspecified 2 (s.epoch + 1) j)

/-- R71, R75, R82, R87, R261, 00_scope.md section 7: the unit never stops on its own; a bridge's access to a whole
aligned word is the read or write of the word address a quarter of its byte address (log entry 10); only a bridge's
partial access (R75) and a configuration that is no instance (log entry 11) have no meaning; with no input waiting an
idle unit stays as it is and a command in progress completes (log entries 2 and 3). -/
def Obligations.EveryVisibleTransactionCompletes : Prop :=
  (∀ s : State, s.cfg.ok = true → (∀ op ∈ s.host.head?, visible op = true) → Completes s) ∧
  (∀ (s : State) (b : BitVec 18) (bytes lag : Nat) (w : Word) (rest : List HostOp), s.cfg.ok = true →
    let after : HostOp → Host.Outcome State Fault Refusal := fun op => step { s with host := op :: rest }
    let a : BitVec 16 := BitVec.ofNat 16 (b.toNat / 4)
    (b.toNat % 4 = 0 → bytes = 4 →
      after (.bridgeRead b bytes) = after (.read a) ∧ after (.bridgeWrite b bytes w lag) = after (.write a w lag)) ∧
    (b.toNat % 4 ≠ 0 ∨ bytes ≠ 4 →
      after (.bridgeRead b bytes) = .refused .notWholeWord ∧
      after (.bridgeWrite b bytes w lag) = .refused .notWholeWord)) ∧
  (∀ s : State, s.cfg.ok = false → step s = .fault .notAnInstance) ∧
  (∀ s : State, s.cfg.ok = true → s.host = [] →
    (s.running = none → step s = .next s) ∧ ∀ r, s.running = some r → step s = exec r.instr s)

/-! ### Errors (60_exceptions.md) -/

/-- R253, R113, R259: a command whose operand names something that does not exist raises E_OPERAND, before the device
is looked at, and changes nothing but the error record. -/
def Obligations.BadOperandsRaiseEOperand : Prop :=
  ∀ (i : Instr) (s : State), i.wellFormed = true → ¬ operandsExist i s →
    exec i s = .next (rejectedWith .operand 4 (encode i) s)

/-- R258: RDWR, RDRD, RDRTW, AP and FDNSTEP with good operands raise E_NODEV while STATUS.DEVOK is 0. -/
def Obligations.LineCommandsWithoutADeviceRaiseENodev : Prop :=
  ∀ (i : Instr) (s : State), i.wellFormed = true → touchesLine i → operandsExist i s → s.devok = false →
    exec i s = .next (rejectedWith .nodev 6 (encode i) s)

/-- R257, R122: DEVUPD raises E_ALLOC when a line needs more than 2^31 words or the new lengths exceed the arena, and
changes nothing but the error record: DEVOK and the old lines stay. -/
def Obligations.OversizedArenaRaisesEAlloc : Prop :=
  ∀ (s : State) (len : Nat → Nat),
    (∀ d, d < 32 → LeastPow2 (max 1 (need s d)) (len d)) →
    (∃ d, d < 32 ∧ 2 ^ 31 < need s d) ∨ s.cfg.dmWords < sumUpTo 32 len →
    exec .devupd s = .next (rejectedWith .alloc 5 0x02000000 s)

/-- R112, R256, R265: a command whose checks all pass completes, with CMDOK 1 and BUSY 0, records no error, never
clears SAT, and touches neither the window registers, the port, the configuration nor XBUF. -/
def Obligations.AcceptedCommandsComplete : Prop :=
  ∀ (i : Instr) (s : State), operandsExist i s → (touchesLine i → s.devok = true) →
    (isDevupd i → (∀ d, d < 32 → need s d ≤ 2 ^ 31) ∧ s.newTotal ≤ s.cfg.dmWords) →
    ∃ t, exec i s = .next t ∧ t.cmdok = true ∧ t.running = none ∧
      t.lasterr = s.lasterr ∧ t.errinfo = s.errinfo ∧ errorBitsKept s t ∧ (s.sat = true → t.sat = true) ∧
      t.msel = s.msel ∧ t.maddr = s.maddr ∧ t.resp = s.resp ∧ t.host = s.host ∧ t.cfg = s.cfg ∧
      t.epoch = s.epoch ∧ t.xbuf = s.xbuf

/-- R20, R21, R26, R30 to R36, R40, R43 to R48, R86, R256: which commands may change which state, over all commands,
for every field of the state; R86's writers of each memory are named by their opcodes (R107).  A rejected command
changes the error record alone, and one that completes does not touch the error record. -/
def Obligations.OnlyTheNamedCommandsWriteEachState : Prop :=
  ∀ (i : Instr) (s t : State), exec i s = .next t →
    (i ≠ .init → ¬ writesTap i → t.v = s.v) ∧
    (i ≠ .init → t.ps = s.ps ∧ t.dlreq = s.dlreq) ∧
    (i ≠ .init → i ≠ .commit → t.pa = s.pa) ∧
    (i ≠ .init → i ≠ .devupd → t.dlbase = s.dlbase ∧ t.dllen = s.dllen ∧ t.devok = s.devok) ∧
    (i ≠ .init → (∀ d imm, i ≠ .xadd d imm) → t.x = s.x) ∧
    (i ≠ .devupd → (∀ d x vs, i ≠ .rdwr d x vs) → (∀ d l x q vs, i ≠ .rdrtw d l x q vs) →
      (∀ d a x vs, i ≠ .ap d a x vs) → (∀ d x vs, i ≠ .fdnstep d x vs) → t.dm = s.dm) ∧
    ((∀ c x vs, i ≠ .acy c x vs) → (∀ x vs, i ≠ .mixo x vs) → (∀ f ci co n, i ≠ .bqblk f ci co n) →
      (∀ ci co n, i ≠ .pshblk ci co n) → (∀ n, i ≠ .cmpblk n) → t.ybuf = s.ybuf) ∧
    (i ≠ .init → (∀ d vs, i ≠ .envrms d vs) → (∀ d vs, i ≠ .envfol d vs) → (∀ d vs, i ≠ .envgain d vs) →
      (∀ n, i ≠ .cmpblk n) → t.env = s.env) ∧
    (i ≠ .init → i ≠ .fftbrev → (∀ a b m inv, i ≠ .bfly a b m inv) → (∀ inv, i ≠ .fft inv) → i ≠ .pvwin →
      i ≠ .pvana → i ≠ .pvshift → i ≠ .pvsyn → i ≠ .pvola → (∀ ci co n, i ≠ .pshblk ci co n) → t.pv = s.pv) ∧
    (i ≠ .init → (∀ ci co n, i ≠ .pshblk ci co n) → t.pv.cnt = s.pv.cnt ∧ t.pv.mute = s.pv.mute) ∧
    (i ≠ .init → (∀ d f vs, i ≠ .bq2 d f vs) → (∀ f ci co n, i ≠ .bqblk f ci co n) → t.bqz2 = s.bqz2) ∧
    (i ≠ .init → (∀ d f vs, i ≠ .bq2 d f vs) → (∀ d f vs, i ≠ .bq1 d f vs) → (∀ f ci co n, i ≠ .bqblk f ci co n) →
      (∀ d x vs, i ≠ .fdnstep d x vs) → t.bqz1 = s.bqz1 ∧ t.bqy = s.bqy) ∧
    -- FR, FI: INIT, FFTBREV, BFLY, FFT, PVWIN, PVSYN, PSHBLK
    (i.opcode ∉ [0x01, 0x40, 0x41, 0x42, 0x43, 0x46, 0x48] → t.pv.fr = s.pv.fr ∧ t.pv.fi = s.pv.fi) ∧
    -- INF, OUTF, ACC: INIT, PVOLA, PSHBLK
    (i.opcode ∉ [0x01, 0x47, 0x48] → t.pv.inf = s.pv.inf ∧ t.pv.outf = s.pv.outf ∧ t.pv.acc = s.pv.acc) ∧
    -- LASTPH, AMAG, AFRQ: INIT, PVANA, PSHBLK
    (i.opcode ∉ [0x01, 0x44, 0x48] → t.pv.lastph = s.pv.lastph ∧ t.pv.amag = s.pv.amag ∧ t.pv.afrq = s.pv.afrq) ∧
    -- SUMPH: INIT, PVSYN, PSHBLK; SMAG, SFRQ: INIT, PVSHIFT, PSHBLK
    (i.opcode ∉ [0x01, 0x46, 0x48] → t.pv.sumph = s.pv.sumph) ∧
    (i.opcode ∉ [0x01, 0x45, 0x48] → t.pv.smag = s.pv.smag ∧ t.pv.sfrq = s.pv.sfrq) ∧
    -- RMSW, RMSSUM, RMSPOS: INIT, ENVRMS, CMPBLK; ENVLAST: INIT, ENVFOL, CMPBLK; CGAIN: INIT, ENVGAIN, CMPBLK
    (i.opcode ∉ [0x01, 0x51, 0x58] → t.env.win = s.env.win ∧ t.env.sum = s.env.sum ∧ t.env.pos = s.env.pos) ∧
    (i.opcode ∉ [0x01, 0x52, 0x58] → t.env.last = s.env.last) ∧
    (i.opcode ∉ [0x01, 0x53, 0x58] → t.env.gain = s.env.gain) ∧
    -- SAT: ACY, MIXO, BQ2, BQ1, AP, BQBLK, HHMIX, ROTMIX, FDNSTEP, BFLY, FFT, PVSHIFT, PVSYN, PVOLA, PSHBLK, ENVLINK,
    -- ENVRMS, CMPBLK
    (i.opcode ∉ [0x09, 0x0B, 0x20, 0x21, 0x22, 0x28, 0x30, 0x31, 0x32, 0x41, 0x42, 0x45, 0x46, 0x47, 0x48, 0x50, 0x51,
      0x58] → t.sat = s.sat) ∧
    -- what no command writes
    (t.xbuf = s.xbuf ∧ t.msel = s.msel ∧ t.maddr = s.maddr ∧ t.resp = s.resp ∧ t.host = s.host ∧ t.cfg = s.cfg ∧
      t.epoch = s.epoch ∧ t.polls = s.polls ∧ t.running = none) ∧
    -- the error record
    (t.cmdok = true → t.lasterr = s.lasterr ∧ t.errinfo = s.errinfo ∧ errorBitsKept s t) ∧
    (t.cmdok = false → t =
      { s with flags := t.flags, lasterr := t.lasterr, errinfo := t.errinfo, cmdok := false, running := none })

/-! ### Invariants (10_state.md) -/

/-- Every memory stays in its canonical form (log entry 7), whatever the step does. -/
def Obligations.StepsKeepMemoriesCanonical : Prop :=
  ∀ s t : State, memoriesCanonical s → step s = .next t → memoriesCanonical t

/-- R35, R144, R281: the lines stay packed powers of two inside the arena, and their words have been cleared. -/
def Obligations.StepsKeepTheLinesPackedAndCleared : Prop :=
  ∀ s t : State, LinesPacked s → arenaCleared s → step s = .next t → LinesPacked t ∧ arenaCleared t

/-- R38 and the invariant after R39: every word of both parameter banks stays inside its legal range. -/
def Obligations.StepsKeepTheParametersLegal : Prop :=
  ∀ s t : State, paramsLegal s → step s = .next t → paramsLegal t

/-- R43: PVCNT and PVMUTE stay in their ranges. -/
def Obligations.StepsKeepTheVocoderCountersInRange : Prop :=
  ∀ s t : State, fifoInRange s → step s = .next t → fifoInRange t

/-- R45, R46, R202: RMSSUM stays the exact sum of the window, whose entries stay below 2^31. -/
def Obligations.StepsKeepTheRmsSumExact : Prop :=
  ∀ s t : State, rmsExact s → step s = .next t → rmsExact t

/-- R51: the state after reset meets every invariant above, for every instance. -/
def Obligations.ResetMeetsEveryInvariant : Prop :=
  ∀ (c : Config) (n : Nat), c.ok = true →
    memoriesCanonical (State.resetOf c n) ∧ LinesPacked (State.resetOf c n) ∧ arenaCleared (State.resetOf c n) ∧
    paramsLegal (State.resetOf c n) ∧ fifoInRange (State.resetOf c n) ∧ rmsExact (State.resetOf c n)

/-- R89, R140, R281: once a device update has succeeded, the word of line `d` at any offset is one of line `d`'s own
words, at the offset modulo the length, and reading it never yields an unspecified value. -/
def Obligations.RingAccessesStayInTheirOwnClearedLine : Prop :=
  ∀ (s : State) (d : Nat) (o : Word), LinesPacked s → s.devok = true → d < 32 →
    s.ringIndex d o = lineOffset s d + o.toNat % (s.dlLen d).toNat ∧
    lineOffset s d ≤ s.ringIndex d o ∧ s.ringIndex d o < lineOffset s (d + 1) ∧
    (arenaCleared s → s.ringRead d o = s.dm.read 0 (s.ringIndex d o))

/-- R144, R281: no command other than DEVUPD changes a word of DM outside the delay lines, and DEVUPD changes none at
or above the total of the lines it leaves. -/
def Obligations.CommandsLeaveDmOutsideTheLinesAlone : Prop :=
  ∀ (i : Instr) (s t : State), i.wellFormed = true → LinesPacked s → bankLegal s.cfg s.pa → exec i s = .next t →
    (i ≠ .devupd → ∀ j, lineOffset s 32 ≤ j → t.dmAt j = s.dmAt j) ∧
    (i = .devupd → ∀ j, lineOffset t 32 ≤ j → t.dmAt j = s.dmAt j)

/-! ### Arithmetic (00_scope.md sections 5.3 and 6) -/

/-- R2 to R4: rounding to nearest with ties toward +infinity, saturation, which clips exactly when it changes the
value, and the absolute value, which clips only on the smallest word. -/
def Obligations.RoundingSaturationAndAbsoluteValue : Prop :=
  (∀ (k : Nat) (v : Int), 1 ≤ k → 2 * v - 2 ^ k < 2 * rnd k v * 2 ^ k ∧ 2 * rnd k v * 2 ^ k ≤ 2 * v + 2 ^ k) ∧
  (∀ v : Int, (sat32 v).toInt = (if v < -2147483648 then -2147483648 else if 2147483647 < v then 2147483647 else v) ∧
    (clips v = true ↔ (sat32 v).toInt ≠ v)) ∧
  (∀ (s : State) (b : Bool), (s.noteSat b).sat = (s.sat || b) ∧ errorBitsKept s (s.noteSat b)) ∧
  ∀ w : Word,
    (w.toInt ≠ -2147483648 → (sat32 (absInt w.toInt)).toInt = |w.toInt| ∧ clips (absInt w.toInt) = false) ∧
    (w.toInt = -2147483648 → (sat32 (absInt w.toInt)).toInt = 2147483647 ∧ clips (absInt w.toInt) = true)

/-- R8: the representative modulo 2^32 in (-2^31, 2^31], half a turn being +2^31. -/
def Obligations.UnwrapGivesTheRepresentativeAboveMinusHalf : Prop :=
  ∀ v : Int, (∃ n : Int, unwrap v = v + n * 4294967296) ∧ -2147483648 < unwrap v ∧ unwrap v ≤ 2147483648

/-- R11: for an argument from 1 to 2^31, the least power of two at or above it. -/
def Obligations.NextPowerOfTwoIsTheLeastOne : Prop :=
  ∀ v : Nat, 1 ≤ v → v ≤ 2 ^ 31 → LeastPow2 v (nextPow2 v)

/-- R12 to R18: every anchor property the spec states of the configuration functions, and the tables' formulas of R18
with the anchors that follow from them. -/
def Obligations.ConfigurationFunctionsMeetTheirAnchors : Prop :=
  (∀ p : Word, |cost p| ≤ 16777216 ∧ |sint p| ≤ 16777216) ∧
  (cost 0 = 16777216 ∧ cost 0x40000000 = 0 ∧ cost 0x80000000 = -16777216 ∧ cost 0xC0000000 = 0) ∧
  (sint 0 = 0 ∧ sint 0x40000000 = 16777216 ∧ sint 0x80000000 = 0 ∧ sint 0xC0000000 = -16777216) ∧
  (∀ p : Word, p ≠ 0x80000000 → cost (-p) = cost p ∧ sint (-p) = -sint p) ∧
  (∀ re im : Word, 0 ≤ (magq re im).toInt) ∧
  (∀ a : Word, (magq a 0).toInt = min |a.toInt| 2147483647 ∧ (magq 0 a).toInt = min |a.toInt| 2147483647) ∧
  (∀ a : Word, (0 ≤ a.toInt → atan2t 0 a = 0) ∧ (a.toInt < 0 → atan2t 0 a = 0x80000000) ∧
    (0 < a.toInt → atan2t a 0 = 0x40000000) ∧ (a.toInt < 0 → atan2t a 0 = 0xC0000000)) ∧
  (log10q 16777216 = 0 ∧ ∀ v w : Int, 1 ≤ v → v ≤ w → w ≤ 2147483647 → log10q v ≤ log10q w) ∧
  (exp10q 0 = 16777216 ∧ ∀ d e : Int, -83886080 ≤ d → d ≤ e → e ≤ 0 →
    0 < exp10q d ∧ exp10q d ≤ exp10q e ∧ exp10q e ≤ 16777216) ∧
  (∀ c : Config, c.ok = true →
    twr c 0 = 16777216 ∧ twi c 0 = 0 ∧ twr c (c.pvN / 4) = 0 ∧ twi c (c.pvN / 4) = -16777216 ∧
    hann c 0 = 0 ∧ hann c (c.pvN / 2) = 16777216 ∧ hann c (c.pvN / 4) = 8388608 ∧ hann c (3 * (c.pvN / 4)) = 8388608) ∧
  (∀ (c : Config) (m : Nat), c.ok = true → m < c.pvN →
    let p : Word := BitVec.ofNat 32 (m * (2 ^ 32 / c.pvN))
    (m < c.pvN / 2 → twr c m = cost p ∧ twi c m = -sint p) ∧ hann c m = (16777216 - cost p) / 2)

/-- R80, R122: a word of a memory reads as what was last written to it or cleared to, every other word as before, and
the model's canonical form of a memory (log entry 7) is kept. -/
def Obligations.MemoryWordsReadAsLastWritten : Prop :=
  ∀ (m : Memory 32) (a b n : Nat) (v free : Word),
    ((m.write a v).read free b = if b = a then v else m.read free b) ∧
    ((m.zeroFill n).read free b = if b < n then 0 else m.read free b) ∧
    (m.wf = true → (m.write a v).wf = true ∧ (m.zeroFill n).wf = true)

/-! ### System and block-interface commands (40_system.md) -/

/-- R120, R121, R123: NOP leaves everything, INIT sets the INIT column of R51, COMMIT copies the shadow bank into the
active bank at every defined index; each completes. -/
def Obligations.NopInitAndCommitComplete : Prop :=
  ∀ s : State,
    exec .nop s = .next { s with cmdok := true, running := none } ∧
    (exec .init s = .next
      { State.resetOf s.cfg s.epoch with
        host := s.host, resp := s.resp, polls := s.polls, flags := s.flags, lasterr := s.lasterr
        errinfo := s.errinfo, msel := s.msel, maddr := s.maddr, xbuf := s.xbuf, ybuf := s.ybuf, dm := s.dm }) ∧
    (∃ t, exec .commit s = .next t ∧ t = { s with pa := t.pa, cmdok := true, running := none } ∧
      ∀ p sp, paramSpec s.cfg p = some sp → t.pa[p]? = s.ps[p]?)

/-- R122: DEVUPD within the arena.  If no length changes only DEVOK is set; otherwise every line is laid out anew in
ascending order and every word of the arena is cleared. -/
def Obligations.DevupdLaysOutAndClearsTheLines : Prop :=
  ∀ (s : State) (len : Nat → Nat), s.cfg.ok = true →
    (∀ d, d < 32 → need s d ≤ 2 ^ 31) → (∀ d, d < 32 → LeastPow2 (max 1 (need s d)) (len d)) →
    sumUpTo 32 len ≤ s.cfg.dmWords →
    ((∀ d, d < 32 → len d = (s.dlLen d).toNat) →
      exec .devupd s = .next { s with devok := true, cmdok := true, running := none }) ∧
    ((∃ d, d < 32 ∧ len d ≠ (s.dlLen d).toNat) →
      ∃ t, exec .devupd s = .next t ∧
        t = { s with dlbase := t.dlbase, dllen := t.dllen, dm := t.dm, devok := true, cmdok := true, running := none } ∧
        (∀ d, d < 32 → (t.dlLen d).toNat = len d ∧ (t.dlBase d).toNat = sumUpTo d len) ∧
        ∀ j, t.dmAt j = if j < sumUpTo 32 len then 0 else s.dmAt j)

/-- R126, R127, R125: LDX puts the sample of the input block into the tap register and changes nothing else; ACY adds
the tap register into one word of the output block, with saturation and SAT, and changes nothing else. -/
def Obligations.LdxAndAcyMoveOneSampleOfABlock : Prop :=
  (∀ (d ch x : Nat) (s : State), (Instr.ldx d ch x).wellFormed = true → operandsExist (.ldx d ch x) s →
    ∃ t, exec (.ldx d ch x) s = .next t ∧ t = { s with v := t.v, cmdok := true, running := none } ∧
      ∀ r, t.getV r = if r = d then s.xbufAt (ch * s.cfg.blockMax + (s.getX x).toNat) else s.getV r) ∧
  (∀ (ch x vs : Nat) (s : State), (Instr.acy ch x vs).wellFormed = true → operandsExist (.acy ch x vs) s →
    let a := ch * s.cfg.blockMax + (s.getX x).toNat
    let sum := (s.ybufAt a).toInt + (s.getV vs).toInt
    ∃ t, exec (.acy ch x vs) s = .next t ∧
      t = { s with ybuf := t.ybuf, flags := t.flags, cmdok := true, running := none } ∧
      (∀ j, t.ybufAt j = if j = a then sat32 sum else s.ybufAt j) ∧
      errorBitsKept s t ∧ t.sat = (s.sat || clips sum))

/-- R128, R106: XADD adds the signed immediate to an offset register modulo 2^32, silently. -/
def Obligations.XaddAdvancesModuloTwoToThe32 : Prop :=
  ∀ (d : Nat) (imm : Int) (s : State), (Instr.xadd d imm).wellFormed = true → d ≤ 7 →
    ∃ t, exec (.xadd d imm) s = .next t ∧ t = { s with x := t.x, cmdok := true, running := none } ∧
      (∀ r, r ≠ d → t.getX r = s.getX r) ∧
      ((t.getX d).toNat : Int) = ((s.getX d).toNat + imm) % 4294967296

/-- R129: MIXO adds the sample through the pan gain into every channel below M_NCH whose gain is above the silence
threshold, and leaves every other word alone. -/
def Obligations.MixoAddsThroughEveryAudibleGain : Prop :=
  ∀ (x vs : Nat) (s : State), (Instr.mixo x vs).wellFormed = true → operandsExist (.mixo x vs) s →
    let i := (s.getX x).toNat
    let audible : Nat → Prop := fun c => c < s.parU 0xD8 ∧ s.parQ 0xD9 < |s.parQ (0xE0 + c)|
    let word : Nat → Nat := fun c => c * s.cfg.blockMax + i
    let sum : Nat → Int := fun c =>
      (s.ybufAt (word c)).toInt + rnd 24 (s.parQ (0xE0 + c) * (s.getV vs).toInt)
    ∃ t, exec (.mixo x vs) s = .next t ∧
      t = { s with ybuf := t.ybuf, flags := t.flags, cmdok := true, running := none } ∧
      (∀ c, audible c → t.ybufAt (word c) = sat32 (sum c)) ∧
      (∀ j, (∀ c, audible c → j ≠ word c) → t.ybufAt j = s.ybufAt j) ∧
      errorBitsKept s t ∧ (t.sat = true ↔ s.sat = true ∨ ∃ c, audible c ∧ clips (sum c) = true)

/-! ### Ring delay (41_ring_delay.md) -/

/-- R141 to R143: RDWR writes the word of the line at the offset, RDRD reads it, RDRTW reads `X[q]` behind it before
it writes it; everything else is unchanged. -/
def Obligations.RingCommandsReadAndWriteTheLine : Prop :=
  ∀ (d line x q vs : Nat) (s : State), (Instr.rdrtw d line x q vs).wellFormed = true → s.devok = true →
    (∃ t, exec (.rdwr line x vs) s = .next t ∧ t = { s with dm := t.dm, cmdok := true, running := none } ∧
      ∀ j, t.dmAt j = if j = s.ringIndex line (s.getX x) then s.getV vs else s.dmAt j) ∧
    (∃ t, exec (.rdrd d line x) s = .next t ∧ t = { s with v := t.v, cmdok := true, running := none } ∧
      ∀ r, t.getV r = if r = d then s.dmAt (s.ringIndex line (s.getX x)) else s.getV r) ∧
    (∃ t, exec (.rdrtw d line x q vs) s = .next t ∧
      t = { s with v := t.v, dm := t.dm, cmdok := true, running := none } ∧
      (∀ j, t.dmAt j = if j = s.ringIndex line (s.getX x) then s.getV vs else s.dmAt j) ∧
      ∀ r, t.getV r = if r = d then s.dmAt (s.ringIndex line (s.getX x - s.getX q)) else s.getV r)

/-! ### Filter taps (42_filters.md) -/

/-- R150, R151: one step of the two-pole and of the one-pole tap: the output, the history, SAT; everything else, BQZ2
of a one-pole tap included, is unchanged. -/
def Obligations.BiquadTapsFollowTheirEquations : Prop :=
  ∀ (d f vs : Nat) (s : State), (Instr.bq2 d f vs).wellFormed = true → f < 16 →
    let x := (s.getV vs).toInt
    let y := rnd 24 (s.parQ (8 * f) * x + (s.z1 f).toInt * 2 ^ 24)
    let yw := (sat32 y).toInt
    let n1 := rnd 24 (s.parQ (8 * f + 1) * x - s.parQ (8 * f + 3) * yw + (s.z2 f).toInt * 2 ^ 24)
    let m1 := rnd 24 (s.parQ (8 * f + 1) * x - s.parQ (8 * f + 3) * yw)
    let n2 := rnd 24 (s.parQ (8 * f + 2) * x - s.parQ (8 * f + 4) * yw)
    (∃ t, exec (.bq2 d f vs) s = .next t ∧
      t = { s with v := t.v, bqz1 := t.bqz1, bqz2 := t.bqz2, bqy := t.bqy, flags := t.flags
                   cmdok := true, running := none } ∧
      (∀ r, t.getV r = if r = d then sat32 y else s.getV r) ∧
      (∀ g, t.z1 g = if g = f then sat32 n1 else s.z1 g) ∧
      (∀ g, t.z2 g = if g = f then sat32 n2 else s.z2 g) ∧
      (∀ g, t.yLast g = if g = f then sat32 y else s.yLast g) ∧
      errorBitsKept s t ∧ t.sat = (s.sat || clips y || clips n1 || clips n2)) ∧
    (∃ t, exec (.bq1 d f vs) s = .next t ∧
      t = { s with v := t.v, bqz1 := t.bqz1, bqy := t.bqy, flags := t.flags, cmdok := true, running := none } ∧
      (∀ r, t.getV r = if r = d then sat32 y else s.getV r) ∧
      (∀ g, t.z1 g = if g = f then sat32 m1 else s.z1 g) ∧
      (∀ g, t.yLast g = if g = f then sat32 y else s.yLast g) ∧
      errorBitsKept s t ∧ t.sat = (s.sat || clips y || clips m1))

/-- R153: one step of the all-pass tap: the line is read `AP_DLY` behind the offset, then fed at the offset. -/
def Obligations.AllPassTapFollowsItsEquations : Prop :=
  ∀ (d a o vs : Nat) (s : State), (Instr.ap d a o vs).wellFormed = true → a < 8 → s.devok = true →
    let x := (s.getV vs).toInt
    let line := s.parU (0x80 + 4 * a)
    let g := s.parQ (0x82 + 4 * a)
    let r := (s.dmAt (s.ringIndex line (s.getX o - s.par (0x81 + 4 * a)))).toInt
    let y := rnd 24 (r * 2 ^ 24 - g * x)
    let w := rnd 24 (x * 2 ^ 24 + g * (sat32 y).toInt)
    ∃ t, exec (.ap d a o vs) s = .next t ∧
      t = { s with v := t.v, dm := t.dm, flags := t.flags, cmdok := true, running := none } ∧
      (∀ k, t.getV k = if k = d then sat32 y else s.getV k) ∧
      (∀ j, t.dmAt j = if j = s.ringIndex line (s.getX o) then sat32 w else s.dmAt j) ∧
      errorBitsKept s t ∧ t.sat = (s.sat || clips y || clips w)

/-- R154: BQBLK runs the two-pole tap over the samples of an input channel, adds each output into the output channel,
and leaves the bank's history where the last sample leaves it; every other word is unchanged. -/
def Obligations.BlockBiquadFiltersAndAccumulates : Prop :=
  ∀ (f ci co n : Nat) (s : State), (Instr.bqblk f ci co n).wellFormed = true → operandsExist (.bqblk f ci co n) s →
    let input : Nat → Int := fun k => (s.xbufAt (ci * s.cfg.blockMax + k)).toInt
    let hist : Nat → History := tapRun (coeffs s f) (history s f) input
    let word : Nat → Nat := fun k => co * s.cfg.blockMax + k
    let sum : Nat → Int := fun k => (s.ybufAt (word k)).toInt + (hist (k + 1)).y.toInt
    ∃ t, exec (.bqblk f ci co n) s = .next t ∧
      t = { s with ybuf := t.ybuf, bqz1 := t.bqz1, bqz2 := t.bqz2, bqy := t.bqy, flags := t.flags
                   cmdok := true, running := none } ∧
      (∀ k, k < n → t.ybufAt (word k) = sat32 (sum k)) ∧
      (∀ j, (∀ k, k < n → j ≠ word k) → t.ybufAt j = s.ybufAt j) ∧
      history t f = hist n ∧ (∀ g, g ≠ f → history t g = history s g) ∧
      errorBitsKept s t ∧
      (t.sat = true ↔ s.sat = true ∨ ∃ k, k < n ∧ (tapClips (coeffs s f) (hist k) (input k) = true ∨ clips (sum k) = true))

/-! ### Mixing matrices and the reverb loop (43_fdn.md) -/

/-- R160, R161, R22: the Householder and the rotation matrix over four lanes; all sources are read before any
destination is written, so the groups may overlap. -/
def Obligations.MixingMatricesFollowTheirRows : Prop :=
  ∀ (d vs : Nat) (s : State), d ≤ 12 → vs ≤ 12 →
    let f0 := (s.getV vs).toInt
    let f1 := (s.getV (vs + 1)).toInt
    let f2 := (s.getV (vs + 2)).toInt
    let f3 := (s.getV (vs + 3)).toInt
    let v := rnd 1 (f0 + f1 + f2 + f3)
    let x := s.parQ 0xA0
    let y := s.parQ 0xA1
    let writes : State → Int → Int → Int → Int → Prop := fun t e0 e1 e2 e3 =>
      t = { s with v := t.v, flags := t.flags, cmdok := true, running := none } ∧
      t.getV d = sat32 e0 ∧ t.getV (d + 1) = sat32 e1 ∧ t.getV (d + 2) = sat32 e2 ∧ t.getV (d + 3) = sat32 e3 ∧
      (∀ r, r < d ∨ d + 3 < r → t.getV r = s.getV r) ∧
      errorBitsKept s t ∧ t.sat = (s.sat || clips e0 || clips e1 || clips e2 || clips e3)
    (∃ t, exec (.hhmix d vs) s = .next t ∧ writes t (v - f0) (v - f1) (v - f2) (v - f3)) ∧
    (∃ t, exec (.rotmix d vs) s = .next t ∧
      writes t (rnd 24 (x * f0 + y * (f1 - f2 + f3))) (rnd 24 (x * f1 + y * (-f0 + f2 + f3)))
        (rnd 24 (x * f2 + y * (f0 - f1 + f3))) (rnd 24 (x * f3 + y * (-f0 - f1 - f2))))

/-- R163: one sample of the late reverb.  It completes for every choice of banks and lines, changing only the
destination group, the named dampers' BQZ1 and BQY, the fed words of the lines and SAT.  Whatever banks and lines
collide, the lanes run in the order 0, 1, 2, 3, each on the state `st c` that the lane before it left, and then the
rotated outputs are written into the cyclical lines in that order (the parameters are inside their ranges, R38).  With
distinct dampers and distinct lines every lane's equations read the state before the command. -/
def Obligations.FdnStepClosesTheReverbLoop : Prop :=
  ∀ (d x vs : Nat) (s : State), (Instr.fdnstep d x vs).wellFormed = true → d ≤ 12 → vs ≤ 12 → s.devok = true →
    let o := s.getX x
    let line : Nat → Nat := fun c => s.parU (0xA4 + c)
    let bank : Nat → Nat := fun c => s.parU (0xAC + c)
    let apLine : Nat → Nat := fun c => s.parU (0x80 + 4 * s.parU (0xB0 + c))
    let apDelay : Nat → Word := fun c => s.par (0x81 + 4 * s.parU (0xB0 + c))
    let g : Nat → Int := fun c => s.parQ (0x82 + 4 * s.parU (0xB0 + c))
    let t' : Nat → Int := fun c =>
      rnd 24 (s.parQ 0xA2 * (s.getV (vs + c)).toInt) + (s.dmAt (s.ringIndex (line c) (o - s.par (0xA8 + c)))).toInt
    let u : Nat → Int := fun c =>
      rnd 24 (s.parQ (8 * bank c) * (sat32 (t' c)).toInt + (s.z1 (bank c)).toInt * 2 ^ 24)
    let n1 : Nat → Int := fun c =>
      rnd 24 (s.parQ (8 * bank c + 1) * (sat32 (t' c)).toInt - s.parQ (8 * bank c + 3) * (sat32 (u c)).toInt)
    let a : Nat → Int := fun c =>
      rnd 24 ((s.dmAt (s.ringIndex (apLine c) (o - apDelay c))).toInt * 2 ^ 24 - g c * (sat32 (u c)).toInt)
    let w : Nat → Int := fun c => rnd 24 ((sat32 (u c)).toInt * 2 ^ 24 + g c * (sat32 (a c)).toInt)
    let aw : Nat → Int := fun c => (sat32 (a c)).toInt
    let mx := s.parQ 0xA0
    let my := s.parQ 0xA1
    let m : Nat → Int := fun c =>
      if c = 0 then rnd 24 (mx * aw 0 + my * (aw 1 - aw 2 + aw 3))
      else if c = 1 then rnd 24 (mx * aw 1 + my * (-aw 0 + aw 2 + aw 3))
      else if c = 2 then rnd 24 (mx * aw 2 + my * (aw 0 - aw 1 + aw 3))
      else rnd 24 (mx * aw 3 + my * (-aw 0 - aw 1 - aw 2))
    ∃ t, exec (.fdnstep d x vs) s = .next t ∧
      t = { s with v := t.v, bqz1 := t.bqz1, bqy := t.bqy, dm := t.dm, flags := t.flags
                   cmdok := true, running := none } ∧
      (∀ r, r < d ∨ d + 3 < r → t.getV r = s.getV r) ∧
      (∀ f, (∀ c, c < 4 → f ≠ bank c) → t.z1 f = s.z1 f ∧ t.yLast f = s.yLast f) ∧
      (∀ j, (∀ c, c < 4 → j ≠ s.ringIndex (line c) o ∧ j ≠ s.ringIndex (apLine c) o) → t.dmAt j = s.dmAt j) ∧
      errorBitsKept s t ∧
      (bankLegal s.cfg s.pa → ∃ (st : Nat → State) (z : Nat → Int), st 0 = s ∧
        (∀ c, c < 4 →
          let q := st c
          let t' := rnd 24 (s.parQ 0xA2 * (s.getV (vs + c)).toInt) +
            (q.dmAt (s.ringIndex (line c) (o - s.par (0xA8 + c)))).toInt
          let u := rnd 24 (s.parQ (8 * bank c) * (sat32 t').toInt + (q.z1 (bank c)).toInt * 2 ^ 24)
          let n1 := rnd 24 (s.parQ (8 * bank c + 1) * (sat32 t').toInt - s.parQ (8 * bank c + 3) * (sat32 u).toInt)
          let w := rnd 24 ((sat32 u).toInt * 2 ^ 24 + g c * (sat32 (z c)).toInt)
          z c = rnd 24 ((q.dmAt (s.ringIndex (apLine c) (o - apDelay c))).toInt * 2 ^ 24 - g c * (sat32 u).toInt) ∧
          (∀ f, (st (c + 1)).z1 f = (if f = bank c then sat32 n1 else q.z1 f) ∧
            (st (c + 1)).yLast f = if f = bank c then sat32 u else q.yLast f) ∧
          (∀ j, (st (c + 1)).dmAt j = if j = s.ringIndex (apLine c) o then sat32 w else q.dmAt j) ∧
          (st (c + 1)).sat = (q.sat || clips t' || clips u || clips n1 || clips (z c) || clips w)) ∧
        (let zw : Nat → Int := fun c => (sat32 (z c)).toInt
         let m0 := rnd 24 (mx * zw 0 + my * (zw 1 - zw 2 + zw 3))
         let m1 := rnd 24 (mx * zw 1 + my * (-zw 0 + zw 2 + zw 3))
         let m2 := rnd 24 (mx * zw 2 + my * (zw 0 - zw 1 + zw 3))
         let m3 := rnd 24 (mx * zw 3 + my * (-zw 0 - zw 1 - zw 2))
         (∀ c, c < 4 → t.getV (d + c) = sat32 (z c)) ∧
         (∀ f, t.z1 f = (st 4).z1 f ∧ t.yLast f = (st 4).yLast f) ∧
         (∀ j, t.dmAt j =
           if j = s.ringIndex (line 3) o then sat32 m3 else if j = s.ringIndex (line 2) o then sat32 m2
           else if j = s.ringIndex (line 1) o then sat32 m1 else if j = s.ringIndex (line 0) o then sat32 m0
           else (st 4).dmAt j) ∧
         t.sat = ((st 4).sat || clips m0 || clips m1 || clips m2 || clips m3))) ∧
      (LinesPacked s → bankLegal s.cfg s.pa →
        (∀ c e, c < 4 → e < 4 → c ≠ e → bank c ≠ bank e ∧ line c ≠ line e ∧ apLine c ≠ apLine e) →
        (∀ c e, c < 4 → e < 4 → line c ≠ apLine e) →
        (∀ c, c < 4 →
          t.getV (d + c) = sat32 (a c) ∧ t.z1 (bank c) = sat32 (n1 c) ∧ t.yLast (bank c) = sat32 (u c) ∧
          t.dmAt (s.ringIndex (apLine c) o) = sat32 (w c) ∧ t.dmAt (s.ringIndex (line c) o) = sat32 (m c)) ∧
        (t.sat = true ↔ s.sat = true ∨ ∃ c, c < 4 ∧
          (clips (t' c) || clips (u c) || clips (n1 c) || clips (a c) || clips (w c) || clips (m c)) = true))

/-! ### Phase vocoder (44_phase_vocoder.md) -/

/-- R171: FFTBREV exchanges every entry with the one whose index has the reversed bits. -/
def Obligations.FftbrevReversesTheIndexBits : Prop :=
  ∀ s : State, s.cfg.ok = true →
    ∃ t, exec .fftbrev s = .next t ∧
      t = { s with pv := { s.pv with fr := t.pv.fr, fi := t.pv.fi }, cmdok := true, running := none } ∧
      (∀ i j, i < s.cfg.pvN → j < s.cfg.pvN →
        (∀ k, k < Nat.log2 s.cfg.pvN → j.testBit k = i.testBit (Nat.log2 s.cfg.pvN - 1 - k)) →
        t.pv.fr.read 0 i = s.pv.fr.read 0 j ∧ t.pv.fi.read 0 i = s.pv.fi.read 0 j) ∧
      ∀ i, s.cfg.pvN ≤ i → t.pv.fr.read 0 i = s.pv.fr.read 0 i ∧ t.pv.fi.read 0 i = s.pv.fi.read 0 i

/-- R172: one butterfly, forward (halved) or inverse; all four words are read first, and when the two entries are the
same the second result remains. -/
def Obligations.BflyComputesOneButterfly : Prop :=
  ∀ (xa xb xm inv : Nat) (s : State), (Instr.bfly xa xb xm inv).wellFormed = true →
    operandsExist (.bfly xa xb xm inv) s →
    let a := (s.getX xa).toNat
    let b := (s.getX xb).toNat
    let m := (s.getX xm).toNat
    let wr := twr s.cfg m
    let wi := if inv = 1 then -twi s.cfg m else twi s.cfg m
    let ur := (s.pv.fr.read 0 a).toInt
    let ui := (s.pv.fi.read 0 a).toInt
    let vr := (s.pv.fr.read 0 b).toInt
    let vi := (s.pv.fi.read 0 b).toInt
    let tr := rnd 24 (wr * vr - wi * vi)
    let ti := rnd 24 (wr * vi + wi * vr)
    let scaled : Int → Int := fun z => if inv = 1 then z else rnd 1 z
    ∃ t, exec (.bfly xa xb xm inv) s = .next t ∧
      t = { s with pv := { s.pv with fr := t.pv.fr, fi := t.pv.fi }, flags := t.flags, cmdok := true, running := none } ∧
      (∀ k, t.pv.fr.read 0 k =
        if k = b then sat32 (scaled (ur - tr)) else if k = a then sat32 (scaled (ur + tr)) else s.pv.fr.read 0 k) ∧
      (∀ k, t.pv.fi.read 0 k =
        if k = b then sat32 (scaled (ui - ti)) else if k = a then sat32 (scaled (ui + ti)) else s.pv.fi.read 0 k) ∧
      errorBitsKept s t ∧
      t.sat = (s.sat || clips (scaled (ur + tr)) || clips (scaled (ui + ti)) || clips (scaled (ur - tr)) ||
        clips (scaled (ui - ti)))

/-- R173: FFT is the bit reversal followed by the butterfly stages of lengths 2, 4, ..., N in the loop order of the
rule, on FR and FI alone. -/
def Obligations.FftRunsItsButterflyStages : Prop :=
  ∀ (inv : Nat) (s : State), s.cfg.ok = true → inv ≤ 1 →
    ∃ t r, exec (.fft inv) s = .next t ∧ exec .fftbrev s = .next r ∧
      t = { s with pv := { s.pv with fr := t.pv.fr, fi := t.pv.fi }, flags := t.flags, cmdok := true, running := none } ∧
      errorBitsKept s t ∧
      (∀ i, s.cfg.pvN ≤ i → t.pv.fr.read 0 i = s.pv.fr.read 0 i ∧ t.pv.fi.read 0 i = s.pv.fi.read 0 i) ∧
      t = iter (Nat.log2 s.cfg.pvN) (fun st u =>
        iter (s.cfg.pvN / 2 ^ (st + 1)) (fun q u =>
          iter (2 ^ st) (fun j u =>
            butterfly (inv == 1) (q * 2 ^ (st + 1) + j) (q * 2 ^ (st + 1) + j + 2 ^ st)
              (j * (s.cfg.pvN / 2 ^ (st + 1))) u) u) u) r

/-- R173 (the example of a constant input, for every size): the forward transform of a constant real signal is that
constant in bin 0 and zero elsewhere, without saturation, whatever the twiddle functions are off their anchors. -/
def Obligations.ForwardTransformOfAConstantIsItsDcBin : Prop :=
  ∀ (s : State) (v : Word), s.cfg.ok = true →
    (∀ k, k < s.cfg.pvN → s.pv.fr.read 0 k = v ∧ s.pv.fi.read 0 k = 0) →
    ∃ t, exec (.fft 0) s = .next t ∧ t.sat = s.sat ∧
      ∀ k, k < s.cfg.pvN → t.pv.fr.read 0 k = (if k = 0 then v else 0) ∧ t.pv.fi.read 0 k = 0

/-- R180: PVWIN windows the input FIFO into FR exactly (no saturation) and clears FI. -/
def Obligations.PvwinWindowsTheInput : Prop :=
  ∀ s : State, s.cfg.ok = true →
    ∃ t, exec .pvwin s = .next t ∧
      t = { s with pv := { s.pv with fr := t.pv.fr, fi := t.pv.fi }, cmdok := true, running := none } ∧
      (∀ k, k < s.cfg.pvN →
        (t.pv.fr.read 0 k).toInt = rnd 24 (hann s.cfg k * (s.pv.inf.read 0 k).toInt) ∧ t.pv.fi.read 0 k = 0) ∧
      ∀ k, s.cfg.pvN ≤ k → t.pv.fr.read 0 k = s.pv.fr.read 0 k ∧ t.pv.fi.read 0 k = s.pv.fi.read 0 k

/-- R181: PVANA's magnitude, phase and unwrapped frequency of every bin. -/
def Obligations.PvanaAnalysesEveryBin : Prop :=
  ∀ s : State, s.cfg.ok = true →
    ∃ t, exec .pvana s = .next t ∧
      t = { s with pv := { s.pv with lastph := t.pv.lastph, amag := t.pv.amag, afrq := t.pv.afrq }
                   cmdok := true, running := none } ∧
      (∀ k, k ≤ s.cfg.pvN / 2 →
        let re := s.pv.fr.read 0 k
        let im := s.pv.fi.read 0 k
        let e : Int := k * (2 ^ 32 / s.cfg.pvOsamp : Nat)
        t.pv.amag.read 0 k = magq re im ∧ t.pv.lastph.read 0 k = atan2t im re ∧
        (t.pv.afrq.read 0 k).toInt = e + unwrap ((atan2t im re).toInt - (s.pv.lastph.read 0 k).toInt - e)) ∧
      ∀ k, s.cfg.pvN / 2 < k → t.pv.amag.read 0 k = s.pv.amag.read 0 k ∧
        t.pv.lastph.read 0 k = s.pv.lastph.read 0 k ∧ t.pv.afrq.read 0 k = s.pv.afrq.read 0 k

/-- R182: PVSHIFT sends every bin to its rounded multiple: magnitudes accumulate in ascending source order, the last
source sets the frequency, destinations above H are dropped.  A scaled frequency that fits the 48 bits of SFRQ is
stored exactly; that one that does not fit is stored modulo 2^48 (in `shiftedFreq`) is the model's choice, log entry
15, and R9 says that none occurs. -/
def Obligations.PvshiftAccumulatesIntoTheTargetBins : Prop :=
  ∀ s : State, s.cfg.ok = true → 0 ≤ s.parQ 0xD0 →
    ∃ t, exec .pvshift s = .next t ∧
      t = { s with pv := { s.pv with smag := t.pv.smag, sfrq := t.pv.sfrq }, flags := t.flags
                   cmdok := true, running := none } ∧
      (∀ k, shiftTarget s k = (k * s.parQ 0xD0 + 2 ^ 23) / 2 ^ 24) ∧
      (∀ j, j ≤ s.cfg.pvN / 2 →
        t.pv.smag.read 0 j = shiftedMag s j (s.cfg.pvN / 2 + 1) ∧
        t.pv.sfrq.read 0 j = shiftedFreq s j (s.cfg.pvN / 2 + 1)) ∧
      (∀ j k : Nat, j ≤ s.cfg.pvN / 2 → k ≤ s.cfg.pvN / 2 → shiftTarget s k = j →
        (∀ m : Nat, k < m → m ≤ s.cfg.pvN / 2 → shiftTarget s m ≠ j) →
        let f := rnd 24 ((s.pv.afrq.read 0 k).toInt * s.parQ 0xD0)
        (-140737488355328 : Int) ≤ f → f < 140737488355328 → (t.pv.sfrq.read 0 j).toInt = f) ∧
      (∀ j, s.cfg.pvN / 2 < j → t.pv.smag.read 0 j = s.pv.smag.read 0 j ∧ t.pv.sfrq.read 0 j = s.pv.sfrq.read 0 j) ∧
      errorBitsKept s t ∧
      (t.sat = true ↔ s.sat = true ∨ ∃ j k, j ≤ s.cfg.pvN / 2 ∧ k ≤ s.cfg.pvN / 2 ∧ shiftTarget s k = j ∧
        clips ((shiftedMag s j k).toInt + (s.pv.amag.read 0 k).toInt) = true)

/-- R183: PVSYN integrates every bin's phase, writes the bin from its magnitude (doubled between 0 and H) and zeroes
the upper half. -/
def Obligations.PvsynSynthesisesEveryBin : Prop :=
  ∀ s : State, s.cfg.ok = true →
    let ph : Nat → Word := fun k => BitVec.ofInt 32 ((s.pv.sumph.read 0 k).toInt + (s.pv.sfrq.read 0 k).toInt)
    let w : Nat → Int := fun k =>
      if k = 0 ∨ k = s.cfg.pvN / 2 then (s.pv.smag.read 0 k).toInt else 2 * (s.pv.smag.read 0 k).toInt
    let re : Nat → Int := fun k => rnd 24 (w k * cost (ph k))
    let im : Nat → Int := fun k => rnd 24 (w k * sint (ph k))
    ∃ t, exec .pvsyn s = .next t ∧
      t = { s with pv := { s.pv with fr := t.pv.fr, fi := t.pv.fi, sumph := t.pv.sumph }, flags := t.flags
                   cmdok := true, running := none } ∧
      (∀ k, k ≤ s.cfg.pvN / 2 →
        t.pv.sumph.read 0 k = ph k ∧ t.pv.fr.read 0 k = sat32 (re k) ∧ t.pv.fi.read 0 k = sat32 (im k)) ∧
      (∀ k, s.cfg.pvN / 2 < k → k < s.cfg.pvN → t.pv.fr.read 0 k = 0 ∧ t.pv.fi.read 0 k = 0) ∧
      (∀ k, s.cfg.pvN / 2 < k → t.pv.sumph.read 0 k = s.pv.sumph.read 0 k) ∧
      (∀ k, s.cfg.pvN ≤ k → t.pv.fr.read 0 k = s.pv.fr.read 0 k ∧ t.pv.fi.read 0 k = s.pv.fi.read 0 k) ∧
      errorBitsKept s t ∧
      (t.sat = true ↔ s.sat = true ∨ ∃ k, k ≤ s.cfg.pvN / 2 ∧ (clips (re k) || clips (im k)) = true)

/-- R184: PVOLA windows and accumulates the frame, emits one hop and shifts the accumulator and the input FIFO. -/
def Obligations.PvolaOverlapAddsAndShifts : Prop :=
  ∀ s : State, s.cfg.ok = true →
    let hop := s.cfg.pvN / s.cfg.pvOsamp
    let sum : Nat → Int := fun k =>
      (s.pv.acc.read 0 k).toInt + rnd 48 (hann s.cfg k * (s.pv.fr.read 0 k).toInt * s.parQ 0xD1)
    ∃ t, exec .pvola s = .next t ∧
      t = { s with pv := { s.pv with acc := t.pv.acc, outf := t.pv.outf, inf := t.pv.inf }, flags := t.flags
                   cmdok := true, running := none } ∧
      (∀ k, k < hop → t.pv.outf.read 0 k = sat32 (sum k)) ∧
      (∀ k, hop ≤ k → t.pv.outf.read 0 k = s.pv.outf.read 0 k) ∧
      (∀ k, k < s.cfg.pvN - hop →
        t.pv.acc.read 0 k = sat32 (sum (k + hop)) ∧ t.pv.inf.read 0 k = s.pv.inf.read 0 (k + hop)) ∧
      (∀ k, s.cfg.pvN - hop ≤ k → k < s.cfg.pvN → t.pv.acc.read 0 k = 0) ∧
      (∀ k, s.cfg.pvN ≤ k → t.pv.acc.read 0 k = s.pv.acc.read 0 k) ∧
      (∀ k, s.cfg.pvN - hop ≤ k → t.pv.inf.read 0 k = s.pv.inf.read 0 k) ∧
      errorBitsKept s t ∧ (t.sat = true ↔ s.sat = true ∨ ∃ k, k < s.cfg.pvN ∧ clips (sum k) = true)

/-- R188: PSHBLK over samples that do not fill the input FIFO: the samples enter INF, the finished samples (or the
forced zeros) are added into the output channel, and the two counters advance. -/
def Obligations.PshblkStreamsThroughTheFifos : Prop :=
  ∀ (ci co n : Nat) (s : State), (Instr.pshblk ci co n).wellFormed = true → operandsExist (.pshblk ci co n) s →
    s.cfg.ok = true → fifoInRange s → s.pv.cnt.toNat + n < s.cfg.pvN →
    let word : Nat → Nat := fun k => co * s.cfg.blockMax + k
    let y : Nat → Int := fun k =>
      if k < s.pv.mute.toNat then 0
      else (s.pv.outf.read 0 (s.pv.cnt.toNat + k - (s.cfg.pvN - s.cfg.pvN / s.cfg.pvOsamp))).toInt
    let sum : Nat → Int := fun k => (s.ybufAt (word k)).toInt + y k
    ∃ t, exec (.pshblk ci co n) s = .next t ∧
      t = { s with pv := { s.pv with cnt := t.pv.cnt, mute := t.pv.mute, inf := t.pv.inf }, ybuf := t.ybuf
                   flags := t.flags, cmdok := true, running := none } ∧
      t.pv.cnt.toNat = s.pv.cnt.toNat + n ∧ t.pv.mute.toNat = s.pv.mute.toNat - n ∧
      (∀ k, k < n → t.pv.inf.read 0 (s.pv.cnt.toNat + k) = s.xbufAt (ci * s.cfg.blockMax + k)) ∧
      (∀ j, j < s.pv.cnt.toNat ∨ s.pv.cnt.toNat + n ≤ j → t.pv.inf.read 0 j = s.pv.inf.read 0 j) ∧
      (∀ k, k < n → t.ybufAt (word k) = sat32 (sum k)) ∧
      (∀ j, (∀ k, k < n → j ≠ word k) → t.ybufAt j = s.ybufAt j) ∧
      errorBitsKept s t ∧ (t.sat = true ↔ s.sat = true ∨ ∃ k, k < n ∧ clips (sum k) = true)

/-- R170, R188: a block of any length, sample by sample.  A block of no samples completes and does nothing else; the
block with one sample more goes on from where the shorter one ends (`a`): sample `n` enters INF, OUTF's sample or a
forced zero is added into the output channel, the counters advance, and the sample that fills the FIFO is followed by
one frame, which is the host's sequence PVWIN, FFT #0, PVANA, PVSHIFT, PVSYN, FFT #1, PVOLA of commands. -/
def Obligations.PshblkFrameIsTheSevenStepCommands : Prop :=
  ∀ (ci co n : Nat) (s a : State), operandsExist (.pshblk ci co (n + 1)) s → s.cfg.ok = true →
    exec (.pshblk ci co n) s = .next a →
    let out := co * s.cfg.blockMax + n
    let full := a.pv.cnt.toNat + 1 = s.cfg.pvN
    let y : Int := if 0 < a.pv.mute.toNat then 0
      else (a.pv.outf.read 0 (a.pv.cnt.toNat - (s.cfg.pvN - s.cfg.pvN / s.cfg.pvOsamp))).toInt
    let sum := (a.ybufAt out).toInt + y
    let fed : Word → State := fun cnt =>
      { a with
        pv := { a.pv with
          inf := a.pv.inf.write a.pv.cnt.toNat (s.xbufAt (ci * s.cfg.blockMax + n))
          mute := BitVec.ofNat 32 (a.pv.mute.toNat - 1)
          cnt := cnt }
        ybuf := a.ybuf.write out (sat32 sum)
        flags := if clips sum then a.flags ||| 1 else a.flags }
    (n = 0 → a = { s with cmdok := true, running := none }) ∧
    (¬full → exec (.pshblk ci co (n + 1)) s = .next (fed (a.pv.cnt + 1))) ∧
    (full → ∃ t1 t2 t3 t4 t5 t6 t7,
      exec .pvwin (fed (BitVec.ofNat 32 (s.cfg.pvN - s.cfg.pvN / s.cfg.pvOsamp))) = .next t1 ∧
      exec (.fft 0) t1 = .next t2 ∧ exec .pvana t2 = .next t3 ∧ exec .pvshift t3 = .next t4 ∧ exec .pvsyn t4 = .next t5 ∧
      exec (.fft 1) t5 = .next t6 ∧ exec .pvola t6 = .next t7 ∧ exec (.pshblk ci co (n + 1)) s = .next t7)

/-- R188, R190, R43: INIT sets PVMUTE to FIFO_LATENCY = PV_N, as reset does (ResetLeavesTheResetTable), and while
PVMUTE lasts the shifter adds nothing: of a block of any length, whatever its input and however many frames run in it,
the first PVMUTE outputs leave YBUF as it was, PVMUTE counts them down, and no word outside the block's outputs is
touched. -/
def Obligations.TheFirstFifoLatencyOutputsAreSilent : Prop :=
  (∀ s : State, s.cfg.ok = true → ∃ t, exec .init s = .next t ∧ t.pv.mute.toNat = s.cfg.pvN) ∧
  (∀ (ci co n : Nat) (s : State), (Instr.pshblk ci co n).wellFormed = true → operandsExist (.pshblk ci co n) s →
    ∃ t, exec (.pshblk ci co n) s = .next t ∧ t.pv.mute.toNat = s.pv.mute.toNat - n ∧
      ∀ j, (∀ k, s.pv.mute.toNat ≤ k → k < n → j ≠ co * s.cfg.blockMax + k) → t.ybufAt j = s.ybufAt j)

/-! ### Compressor (45_envelope.md) -/

/-- R201: ENVLINK's peak detector: the largest, or the saturated sum, of the pre-gained absolute values. -/
def Obligations.EnvlinkLinksTheChannels : Prop :=
  ∀ (d x : Nat) (s : State), (Instr.envlink d x).wellFormed = true → operandsExist (.envlink d x) s →
    let pre : Nat → Int := fun c =>
      rnd 24 (s.parQ 0xC0 * (s.xbufAt (c * s.cfg.blockMax + (s.getX x).toNat)).toInt)
    let p : Nat → Int := fun c => (sat32 |(sat32 (pre c)).toInt|).toInt
    let n := s.parU 0xCB
    let total := iter n (fun c a => a + p c) (0 : Int)
    ∃ t, exec (.envlink d x) s = .next t ∧
      t = { s with v := t.v, flags := t.flags, cmdok := true, running := none } ∧
      (∀ r, r ≠ d → t.getV r = s.getV r) ∧
      (s.parU 0xCA % 2 = 1 → 1 ≤ n → (∃ c, c < n ∧ (t.getV d).toInt = p c) ∧ ∀ c, c < n → p c ≤ (t.getV d).toInt) ∧
      (s.parU 0xCA % 2 = 0 → t.getV d = sat32 total) ∧
      errorBitsKept s t ∧
      (t.sat = true ↔ s.sat = true ∨ (∃ c, c < n ∧ (clips (pre c) || clips |(sat32 (pre c)).toInt|) = true) ∨
        (s.parU 0xCA % 2 = 0 ∧ clips total = true))

/-- R202, R46: ENVRMS: the square enters the window, the running sum adds the new and subtracts the oldest, the result
is the floor of the mean. -/
def Obligations.EnvrmsKeepsTheRunningMeanSquare : Prop :=
  ∀ (d vs : Nat) (s : State), (Instr.envrms d vs).wellFormed = true → s.cfg.ok = true → rmsExact s →
    let square := rnd 24 ((s.getV vs).toInt * (s.getV vs).toInt)
    let sq := sat32 square
    let pos := s.env.pos.toNat
    ∃ t, exec (.envrms d vs) s = .next t ∧
      t = { s with v := t.v, env := { s.env with sum := t.env.sum, win := t.env.win, pos := t.env.pos }
                   flags := t.flags, cmdok := true, running := none } ∧
      (∀ j, t.env.win.read 0 j = if j = pos then sq else s.env.win.read 0 j) ∧
      t.env.sum.toNat + (s.env.win.read 0 pos).toNat = s.env.sum.toNat + sq.toNat ∧
      t.env.pos.toNat = (pos + 1) % s.cfg.rmsWin ∧
      (∀ r, t.getV r = if r = d then sat32 (t.env.sum.toNat / s.cfg.rmsWin : Nat) else s.getV r) ∧
      errorBitsKept s t ∧ t.sat = (s.sat || clips square)

/-- R203: ENVFOL: the envelope moves toward the target by the interpolated step and never past it. -/
def Obligations.EnvfolFollowsWithoutOvershoot : Prop :=
  ∀ (d vs : Nat) (s : State), (Instr.envfol d vs).wellFormed = true → bankLegal s.cfg s.pa →
    let v := (s.getV vs).toInt
    let target : Int :=
      if v ≤ 0 then -83886080
      else max (-83886080) (if s.parU 0xCA / 2 % 2 = 1 then rnd 1 (log10q v) else log10q v)
    let last := s.env.last.toInt
    let rate := min 16777216 (2 * |target - last| / 9)
    let attack := s.parQ 0xC6 + rnd 24 (rate * (s.parQ 0xC7 - s.parQ 0xC6))
    let release := s.parQ 0xC8 + rnd 24 (rate * (s.parQ 0xC9 - s.parQ 0xC8))
    ∃ t, exec (.envfol d vs) s = .next t ∧
      t = { s with v := t.v, env := { s.env with last := t.env.last }, cmdok := true, running := none } ∧
      (∀ r, t.getV r = if r = d then t.env.last else s.getV r) ∧
      (last < target → t.env.last.toInt = min target (last + attack)) ∧
      (target < last → t.env.last.toInt = max target (last - release)) ∧
      (last = target → t.env.last.toInt = last) ∧
      min last target ≤ t.env.last.toInt ∧ t.env.last.toInt ≤ max last target

/-- R205, R17: ENVGAIN: the exponent of the hard knee, or of the quadratic blend inside a soft knee, clamped to
[ENVFLOOR, 0]; the gain is above 0 and at most ONE. -/
def Obligations.EnvgainComputesTheClampedGain : Prop :=
  ∀ (d vs : Nat) (s : State), (Instr.envgain d vs).wellFormed = true →
    let env := (s.getV vs).toInt
    let th := s.parQ 0xC2
    let k := s.parQ 0xC4
    let lower := th - k / 2
    let straight := rnd 24 (s.parQ 0xC3 * (th - env))
    let e : Int :=
      if k = 0 then straight
      else if env ≤ lower then 0
      else if lower + k ≤ env then straight
      else -rnd 24 (rnd 24 ((env - lower) * (env - lower)) * s.parQ 0xC5)
    ∃ t, exec (.envgain d vs) s = .next t ∧
      t = { s with v := t.v, env := { s.env with gain := t.env.gain }, cmdok := true, running := none } ∧
      (∀ r, t.getV r = if r = d then t.env.gain else s.getV r) ∧
      t.env.gain.toInt = exp10q (min 0 (max (-83886080) e)) ∧
      0 < t.env.gain.toInt ∧ t.env.gain.toInt ≤ 16777216

/-- R207: CMPBLK: the compressor's registers follow the chain LINK, RMS, FOLLOW, GAIN sample by sample, and every
channel below C_NCH has its pre-gained sample times the gain of that sample added into the output block. -/
def Obligations.CmpblkScalesEveryChannelByTheChainGain : Prop :=
  ∀ (n : Nat) (s : State), (Instr.cmpblk n).wellFormed = true → operandsExist (.cmpblk n) s →
    let word : Nat → Nat → Nat := fun c i => c * s.cfg.blockMax + i
    let pre : Nat → Nat → Int := fun c i => rnd 24 (s.parQ 0xC0 * (s.xbufAt (word c i)).toInt)
    let out : Nat → Nat → Int := fun c i => rnd 24 ((sat32 (pre c i)).toInt * chainGain s i)
    let sum : Nat → Nat → Int := fun c i => (s.ybufAt (word c i)).toInt + (sat32 (out c i)).toInt
    ∃ t, exec (.cmpblk n) s = .next t ∧
      t = { s with ybuf := t.ybuf, env := t.env, flags := t.flags, cmdok := true, running := none } ∧
      t.env = (chainRun s n).env ∧
      (∀ c i, c < s.parU 0xCB → i < n → t.ybufAt (word c i) = sat32 (sum c i)) ∧
      (∀ j, (∀ c i, c < s.parU 0xCB → i < n → j ≠ word c i) → t.ybufAt j = s.ybufAt j) ∧
      errorBitsKept s t ∧
      (t.sat = true ↔ (chainRun s n).sat = true ∨ ∃ c i, c < s.parU 0xCB ∧ i < n ∧
        (clips (pre c i) || clips (out c i) || clips (sum c i)) = true)

/-- R207, R201 to R205: one sample of CMPBLK updates the compressor exactly as the scalar commands ENVLINK, ENVRMS
(when C_MODE bit 1 is 1), ENVFOL, ENVGAIN issued one after the other do. -/
def Obligations.CmpblkSampleIsTheScalarChain : Prop :=
  ∀ (s : State), 1 ≤ s.cfg.blockMax → s.getX 0 = 0 →
    ∃ a b c d t, exec (.envlink 0 0) s = .next a ∧
      (if s.parU 0xCA / 2 % 2 = 1 then exec (.envrms 0 0) a = .next b else b = a) ∧
      exec (.envfol 0 0) b = .next c ∧ exec (.envgain 0 0) c = .next d ∧ exec (.cmpblk 1) s = .next t ∧
      t.env = d.env

/-- R208: the limiter law.  With C_SLOPE = ONE, C_KNEE = 0 and unit gains, and an envelope that has settled at `l`, at
or above the threshold, every output sample (added into a cleared word of YBUF) stays at or below `10^T` in amplitude,
up to the roundings: `l` is at least the level of the amplitude `amp` up to `tolL` (LOG10Q's rounding), EXP10Q is at
most its ideal value up to `tolE`, and the last product is rounded.  Where the exponent is clamped, `10^(l - 5)`
stands in the place of `10^T` (the gain floor of R205).  A constant linked level keeps a settled envelope settled,
with and without the RMS window. -/
def Obligations.TheSettledLimiterHoldsTheThreshold : Prop :=
  ∀ (n : Nat) (s : State), (Instr.cmpblk n).wellFormed = true → operandsExist (.cmpblk n) s →
    let l := s.env.last.toInt
    let th := s.parQ 0xC2
    let word : Nat → Nat → Nat := fun c i => c * s.cfg.blockMax + i
    (∀ (amp : Nat) (tolL tolE : ℝ), s.parQ 0xC0 = 16777216 → s.parQ 0xC1 = 16777216 → s.parQ 0xC3 = 16777216 →
      s.parQ 0xC4 = 0 → (∀ i, i ≤ n → (chainRun s i).env.last = s.env.last) → th ≤ l → 1 ≤ amp →
      2 ^ 24 * Real.logb 10 (amp / 2 ^ 24) ≤ l + tolL →
      (exp10q (max (-83886080) (th - l)) : ℝ) ≤ 2 ^ 24 * (10 : ℝ) ^ ((max (-83886080) (th - l) : Int) / 2 ^ 24 : ℝ) + tolE →
      ∃ t, exec (.cmpblk n) s = .next t ∧
        ∀ c i, c < s.parU 0xCB → i < n → |(s.xbufAt (word c i)).toInt| ≤ amp → (s.ybufAt (word c i)).toInt = 0 →
          (|(t.ybufAt (word c i)).toInt| : ℝ) ≤
            2 ^ 24 * (10 : ℝ) ^ (((max th (l - 83886080) : Int) + tolL) / 2 ^ 24 : ℝ) + amp * tolE / 2 ^ 24 + 1 / 2) ∧
    (∀ level : Int, (∀ i, i < n → (linkStep i s).1.toInt = level) →
      let square := (sat32 (rnd 24 (level * level))).toInt
      let settledAt : Int → Int := fun v => if v ≤ 0 then -83886080
        else max (-83886080) (if s.parU 0xCA / 2 % 2 = 1 then rnd 1 (log10q v) else log10q v)
      (s.parU 0xCA / 2 % 2 = 0 → l = settledAt level →
        ∀ i, i ≤ n → (chainRun s i).env.last = s.env.last) ∧
      (s.parU 0xCA / 2 % 2 = 1 → s.cfg.ok = true → rmsExact s →
        (∀ j, j < s.cfg.rmsWin → (s.env.win.read 0 j).toInt = square) → l = settledAt square →
        ∀ i, i ≤ n → (chainRun s i).env.last = s.env.last))
end

