-- ==== Sys2Proof/Machine/HostCoefficients.lean ====
section
/-! DEFINITION. The host's coefficient formulas (47_host_coefficients.md R220 to R230), on real numbers.

Nothing here is executed by the unit, and no definition of the machine uses it: it says which words the unit's parameters
are meant to hold.  The only step from real numbers to words is `q24` (R220). -/

namespace Sys2Proof.Machine

/-- `q24(r)` (R220): rounded to nearest, ties toward plus infinity, clamped to the range of a word.  A number that is
not finite is no real number, so it has no image. -/
noncomputable def q24 (r : ℝ) : Word := BitVec.ofInt 32 (clampTo minQ maxQ ⌊r * 2 ^ 24 + 1 / 2⌋)

/-- The real number a q24 word stands for, `v / 2^24`, exact (R1, R220). -/
def q24Value (w : Word) : ℚ := w.toInt / 2 ^ 24

/-- The six kinds of the filter designer (R221). -/
inductive FilterKind where
  | lowpass
  | highpass
  | bandpass
  | peaking
  | lowShelf
  | highShelf
deriving DecidableEq, Repr

/-- The five coefficients of a section, divided by a0 (R221). -/
structure BiquadCoeffs where
  b0 : ℝ
  b1 : ℝ
  b2 : ℝ
  a1 : ℝ
  a2 : ℝ

/-- The division by a0 ("`a0` is implicitly 1 (coefficients are pre-divided)", R221). -/
noncomputable def preDivide (b0 b1 b2 a0 a1 a2 : ℝ) : BiquadCoeffs where
  b0 := b0 / a0
  b1 := b1 / a0
  b2 := b2 / a0
  a1 := a1 / a0
  a2 := a2 / a0

/-- `gain' = max(gain, 0.00001)` (R221). -/
noncomputable def designGain (gain : ℝ) : ℝ := max gain (1 / 100000)

/-- `w0 = 2π·f0norm` (R221). -/
noncomputable def designW0 (f0norm : ℝ) : ℝ := 2 * Real.pi * f0norm

/-- `alpha = sin(w0)·rcpQ/2` (R221). -/
noncomputable def designAlpha (f0norm rcpQ : ℝ) : ℝ := Real.sin (designW0 f0norm) * rcpQ / 2

/-- The rows of the table of R223, with `c = cos(w0)`, `g` the table's A and `be` its β. -/
noncomputable def cookbook (kind : FilterKind) (c alpha g be : ℝ) : BiquadCoeffs :=
  match kind with
  | .lowpass => preDivide ((1 - c) / 2) (1 - c) ((1 - c) / 2) (1 + alpha) (-2 * c) (1 - alpha)
  | .highpass => preDivide ((1 + c) / 2) (-(1 + c)) ((1 + c) / 2) (1 + alpha) (-2 * c) (1 - alpha)
  | .bandpass => preDivide alpha 0 (-alpha) (1 + alpha) (-2 * c) (1 - alpha)
  | .peaking => preDivide (1 + alpha * g) (-2 * c) (1 - alpha * g) (1 + alpha / g) (-2 * c) (1 - alpha / g)
  | .lowShelf =>
    preDivide (g * ((g + 1) - (g - 1) * c + be)) (2 * g * ((g - 1) - (g + 1) * c)) (g * ((g + 1) - (g - 1) * c - be))
      ((g + 1) + (g - 1) * c + be) (-2 * ((g - 1) + (g + 1) * c)) ((g + 1) + (g - 1) * c - be)
  | .highShelf =>
    preDivide (g * ((g + 1) + (g - 1) * c + be)) (-2 * g * ((g - 1) + (g + 1) * c)) (g * ((g + 1) + (g - 1) * c - be))
      ((g + 1) - (g - 1) * c + be) (2 * ((g - 1) - (g + 1) * c)) ((g + 1) - (g - 1) * c - be)

/-- The biquad filter designer (R221, R223), with `A = sqrt(gain')` and `β = 2·sqrt(A)·alpha`. -/
noncomputable def designBiquad (kind : FilterKind) (gain f0norm rcpQ : ℝ) : BiquadCoeffs :=
  cookbook kind (Real.cos (designW0 f0norm)) (designAlpha f0norm rcpQ) (Real.sqrt (designGain gain))
    (2 * Real.sqrt (Real.sqrt (designGain gain)) * designAlpha f0norm rcpQ)

/-- The words of a bank, in the order of its registers BQ_B0 to BQ_A2 (R223). -/
noncomputable def BiquadCoeffs.words (k : BiquadCoeffs) : Vector Word 5 :=
  #v[q24 k.b0, q24 k.b1, q24 k.b2, q24 k.a1, q24 k.a2]

/-- The reciprocal Q of a shelf slope (R222). -/
noncomputable def rcpQOfSlope (gain slope : ℝ) : ℝ := Real.sqrt ((gain + 1 / gain) * (1 / slope - 1) + 2)

/-- The reciprocal Q of a bandwidth in octaves (R222). -/
noncomputable def rcpQOfBandwidth (f0norm bandwidth : ℝ) : ℝ :=
  2 * Real.sinh (Real.log 2 / 2 * bandwidth * (designW0 f0norm / Real.sin (designW0 f0norm)))

/-- The decay coefficient of a line of `len` samples, `0.001^(len/(fs·decayTime))` (R224). -/
noncomputable def decayCoeff (len fs decayTime : ℝ) : ℝ := (1 / 1000 : ℝ) ^ (len / (fs * decayTime))

/-- The density gain `sqrt(1 - a²)` (R225), loaded into F_DENS. -/
noncomputable def densityGain (a : ℝ) : ℝ := Real.sqrt (1 - a ^ 2)

/-- `θ = diffusion·atan(sqrt(3))` (R226). -/
noncomputable def rotationAngle (diffusion : ℝ) : ℝ := diffusion * Real.arctan (Real.sqrt 3)

/-- `x = cos(θ)` (R226), loaded into F_MIXX. -/
noncomputable def rotationX (diffusion : ℝ) : ℝ := Real.cos (rotationAngle diffusion)

/-- `y = sin(θ)/sqrt(3)` (R226), loaded into F_MIXY. -/
noncomputable def rotationY (diffusion : ℝ) : ℝ := Real.sin (rotationAngle diffusion) / Real.sqrt 3

/-- The request of a delay line (R227): the largest delay in samples at the rate `fs`, `ceil(maxSeconds·fs)`, times 4
for the interleaved main line (41_ring_delay.md R145). -/
noncomputable def lineRequest (maxSeconds fs : ℝ) (interleaved : Bool) : Nat :=
  ⌈maxSeconds * fs⌉₊ * if interleaved then 4 else 1

/-- The pitch ratio `2^((100·coarse + fine)/1200)` (R228), loaded into PV_RATIO. -/
noncomputable def pitchRatio (coarse fine : ℝ) : ℝ := (2 : ℝ) ^ ((100 * coarse + fine) / 1200)

/-- A level in dB in the unit's log10 amplitude units (R229), for C_THRESH and C_KNEE. -/
noncomputable def levelOfDb (db : ℝ) : ℝ := db / 20

/-- C_SLOPE of a compression ratio `r`:1 with `r ≥ 1` (R229). -/
noncomputable def slopeOfRatio (r : ℝ) : ℝ := 1 - 1 / r

/-- C_SLOPE of a reciprocal ratio in [0, 1] (R229); 0 is the limiter. -/
noncomputable def slopeOfReciprocal (rho : ℝ) : ℝ := 1 - rho

/-- C_KNEEM of the real slope and knee (R229): `slope/(2·knee)`, and 0 when there is no knee. -/
noncomputable def kneeSlope (slope knee : ℝ) : ℝ := if 0 < knee then slope / (2 * knee) else 0

/-- The suggested attack or release step of a time constant, in log units per sample (R229). -/
noncomputable def stepOfTime (t fs : ℝ) : ℝ := 1 / (t * fs)

/-- C_MODE (R229): bit 0 selects absolute-max linking, bit 1 the RMS window. -/
def modeWord (absMax rms : Bool) : Word := BitVec.ofNat 32 (absMax.toNat + 2 * rms.toNat)

/-- The pan words of the host's channel gains, `M_PAN[c] = q24(gain_c)` (R230). -/
noncomputable def panWords (gains : List ℝ) : List Word := gains.map q24

end Sys2Proof.Machine
end

