-- ==== Sys2Proof/Laws/HostCoefficients.lean ====
section
/-! SUPPORT. What the host's formulas give at the values the spec works out (47_host_coefficients.md). -/

namespace Sys2Proof.Machine

/-- The conversion of R220 is exact on every word: a word's real number converts back to the word. -/
theorem q24_of_value (w : Word) : q24 ((w.toInt : ℝ) / 2 ^ 24) = w := by
  have hf : ⌊(w.toInt : ℝ) / 2 ^ 24 * 2 ^ 24 + 1 / 2⌋ = w.toInt := by
    rw [div_mul_cancel₀ _ (by norm_num), Int.floor_eq_iff]
    constructor <;> linarith
  have hlo := BitVec.le_toInt w
  have hhi := BitVec.toInt_lt (x := w)
  unfold q24
  rw [hf, show clampTo minQ maxQ w.toInt = w.toInt by unfold clampTo minQ maxQ; omega, BitVec.ofInt_toInt]

/-- "since atan(√3) = π/3" (R226). -/
theorem rotationAngle_eq (d : ℝ) : rotationAngle d = d * (Real.pi / 3) := by
  rw [rotationAngle, ← Real.tan_pi_div_three, Real.arctan_tan] <;> linarith [Real.pi_pos]

/-- The rotation is lossless before the conversion to words: `x² + 3y² = 1` (R226). -/
theorem rotation_lossless (d : ℝ) : rotationX d ^ 2 + 3 * rotationY d ^ 2 = 1 := by
  rw [rotationX, rotationY, div_pow, Real.sq_sqrt (by norm_num)]
  linarith [Real.sin_sq_add_cos_sq (rotationAngle d)]

/-- Slope 1 gives `rcpQ = sqrt 2` for every gain (R222). -/
theorem rcpQOfSlope_one (gain : ℝ) : rcpQOfSlope gain 1 = Real.sqrt 2 := by simp [rcpQOfSlope]

/-- Gain 1 and slope 0.5 give `rcpQ = 2` (R222). -/
theorem rcpQOfSlope_half : rcpQOfSlope 1 (1 / 2) = 2 := by
  rw [rcpQOfSlope, show ((1 : ℝ) + 1 / 1) * (1 / (1 / 2) - 1) + 2 = 2 ^ 2 by norm_num]
  exact Real.sqrt_sq (by norm_num)

/-- No time of the line gives no decay, a line as long as the decay time gives -60 dB (R224). -/
theorem decayCoeff_ends (fs t : ℝ) (h : fs * t ≠ 0) : decayCoeff 0 fs t = 1 ∧ decayCoeff (fs * t) fs t = 1 / 1000 := by
  simp [decayCoeff, div_self h]

end Sys2Proof.Machine
end

