-- ==== Sys2Proof/Laws/Limiter.lean ====
section
/-! SUPPORT. The real-number part of the limiter law (45_envelope.md R208): what one product of a sample and a gain can
reach when the level and the gain are known up to their roundings. -/

namespace Sys2Proof.Machine

/-- Narrowing never moves a value away from 0 (00_scope.md R3). -/
theorem abs_sat32_le (v : Int) : |(sat32 v).toInt| ≤ |v| := by
  have h : (sat32 v).toInt = max (-2147483648) (min 2147483647 v) := by
    unfold sat32 clamp32 minQ maxQ
    rw [BitVec.toInt_ofInt, Int.bmod_eq_of_le] <;> omega
  rw [h, abs_le]
  constructor <;> rcases abs_cases v with ⟨e, _⟩ | ⟨e, _⟩ <;> rw [e] <;> omega

/-- Rounding by 24 bits adds at most one half (00_scope.md R2). -/
theorem abs_rnd24_le (v : Int) : (|(rnd 24 v : Int)| : ℝ) ≤ |(v : ℝ)| / 2 ^ 24 + 1 / 2 := by
  have h1 : 2 * (rnd 24 v) * 16777216 ≤ 2 * v + 16777216 := by unfold rnd; omega
  have h2 : 2 * v - 16777216 ≤ 2 * (rnd 24 v) * 16777216 := by unfold rnd; omega
  have g1 : 2 * (rnd 24 v : ℝ) * 16777216 ≤ 2 * v + 16777216 := by exact_mod_cast h1
  have g2 : 2 * (v : ℝ) - 16777216 ≤ 2 * (rnd 24 v : ℝ) * 16777216 := by exact_mod_cast h2
  have := le_abs_self (v : ℝ)
  have := neg_abs_le (v : ℝ)
  rw [abs_le]
  constructor <;> norm_num <;> linarith

/-- A sample of amplitude at most `amp`, whose level is at most `l` up to `tolL`, times a gain that is at most
`10^(e / 2^24)` up to `tolE`, gives at most `10^((l + e) / 2^24)` up to those roundings and the product's own (R208). -/
theorem limiter_product (x g l e : Int) (amp : Nat) (tolL tolE : ℝ) (ha : 1 ≤ amp) (hx : |x| ≤ amp) (hg : 0 ≤ g)
    (hl : 2 ^ 24 * Real.logb 10 (amp / 2 ^ 24) ≤ l + tolL)
    (he : (g : ℝ) ≤ 2 ^ 24 * (10 : ℝ) ^ ((e : ℝ) / 2 ^ 24) + tolE) :
    (|(sat32 (rnd 24 (x * g))).toInt| : ℝ) ≤
      2 ^ 24 * (10 : ℝ) ^ (((l : ℝ) + e + tolL) / 2 ^ 24) + amp * tolE / 2 ^ 24 + 1 / 2 := by
  have ha' : (0 : ℝ) < amp := by exact_mod_cast ha
  have h1 : (|(sat32 (rnd 24 (x * g))).toInt| : ℝ) ≤ |((rnd 24 (x * g) : Int) : ℝ)| := by
    exact_mod_cast abs_sat32_le (rnd 24 (x * g))
  have h2 := abs_rnd24_le (x * g)
  have hx' : |(x : ℝ)| ≤ amp := by exact_mod_cast hx
  have hg' : (0 : ℝ) ≤ g := by exact_mod_cast hg
  have h3 : |((x * g : Int) : ℝ)| ≤ amp * g := by
    push_cast
    rw [abs_mul, abs_of_nonneg hg']
    exact mul_le_mul_of_nonneg_right hx' hg'
  have h4 : (amp : ℝ) ≤ 2 ^ 24 * (10 : ℝ) ^ (((l : ℝ) + tolL) / 2 ^ 24) := by
    have hpos : (0 : ℝ) < amp / 2 ^ 24 := by positivity
    have : (amp : ℝ) / 2 ^ 24 ≤ (10 : ℝ) ^ (((l : ℝ) + tolL) / 2 ^ 24) := by
      rw [← Real.logb_le_iff_le_rpow (by norm_num) hpos, le_div_iff₀ (by norm_num)]
      linarith
    rw [div_le_iff₀ (by norm_num)] at this
    linarith
  have h5 : (amp : ℝ) * g / 2 ^ 24 ≤ amp * (10 : ℝ) ^ ((e : ℝ) / 2 ^ 24) + amp * tolE / 2 ^ 24 := by
    have := mul_le_mul_of_nonneg_left he ha'.le
    rw [div_le_iff₀ (by norm_num)]
    linarith
  have h6 : (amp : ℝ) * (10 : ℝ) ^ ((e : ℝ) / 2 ^ 24) ≤ 2 ^ 24 * (10 : ℝ) ^ (((l : ℝ) + e + tolL) / 2 ^ 24) := by
    rw [show ((l : ℝ) + e + tolL) / 2 ^ 24 = (l + tolL) / 2 ^ 24 + e / 2 ^ 24 by ring,
      Real.rpow_add (by norm_num), ← mul_assoc]
    exact mul_le_mul_of_nonneg_right h4 (by positivity)
  have h7 : |((x * g : Int) : ℝ)| / 2 ^ 24 ≤ amp * g / 2 ^ 24 := div_le_div_of_nonneg_right h3 (by norm_num)
  linarith

end Sys2Proof.Machine
end

