-- ==== Sys2Proof/Laws/Memory.lean ====
section
/-! SUPPORT. What the memory operations do: reading after writing, the zero fill, and the canonical form. -/

namespace Sys2Proof.Machine

theorem cellFind_put {w : Nat} (l : List (Nat × BitVec w)) (a b : Nat) (v : BitVec w) :
    cellFind (cellPut l a v) b = if b = a then some v else cellFind l b := by
  induction l with
  | nil => simp [cellPut, cellFind]
  | cons c rest ih =>
    obtain ⟨k, u⟩ := c
    unfold cellPut
    split
    · next h => subst h; by_cases hb : b = a <;> simp [cellFind, hb]
    · split
      · by_cases hb : b = a <;> simp [cellFind, hb]
      · next h _ =>
        by_cases hk : b = k
        · subst hk; simp [cellFind, Ne.symm h]
        · simp [cellFind, hk, ih]

theorem cellFind_drop {w : Nat} (l : List (Nat × BitVec w)) (a b : Nat) :
    cellFind (cellDrop l a) b = if b = a then none else cellFind l b := by
  induction l with
  | nil => simp [cellDrop, cellFind]
  | cons c rest ih =>
    obtain ⟨k, u⟩ := c
    unfold cellDrop
    split
    · next h =>
      subst h
      by_cases hb : b = a
      · subst hb; simpa using ih
      · simp [cellFind, hb, ih]
    · next h =>
      by_cases hk : b = k
      · subst hk; simp [cellFind, Ne.symm h]
      · simp [cellFind, hk, ih]

theorem cellFind_filter {w : Nat} (l : List (Nat × BitVec w)) (n b : Nat) :
    cellFind (l.filter fun c => decide (n ≤ c.1)) b = if n ≤ b then cellFind l b else none := by
  induction l with
  | nil => simp [cellFind]
  | cons c rest ih =>
    obtain ⟨k, u⟩ := c
    by_cases hk : n ≤ k
    · by_cases hb : b = k
      · subst hb; simp [cellFind, hk]
      · simp [cellFind, hk, hb, ih]
    · by_cases hb : b = k
      · subst hb; simp [hk, ih]
      · simp [cellFind, hk, hb, ih]

/-- A word reads as what was last written to it; every other word reads as before (20_memory.md R80). -/
@[simp] theorem Memory.read_write {w : Nat} (m : Memory w) (a b : Nat) (v free : BitVec w) :
    (m.write a v).read free b = if b = a then v else m.read free b := by
  by_cases h : v = 0 ∧ a < m.zeroed
  · rw [Memory.write, if_pos h]
    by_cases hb : b = a
    · subst hb; simp [Memory.read, cellFind_drop, h.1, h.2]
    · simp [Memory.read, cellFind_drop, hb]
  · rw [Memory.write, if_neg h]
    by_cases hb : b = a <;> simp [Memory.read, cellFind_put, hb]

/-- After a zero fill the words below its bound read 0, the others as before (40_system.md R122). -/
theorem Memory.read_zeroFill {w : Nat} (m : Memory w) (n b : Nat) (free : BitVec w) :
    (m.zeroFill n).read free b = if b < n then 0 else m.read free b := by
  unfold Memory.zeroFill Memory.read
  by_cases hb : b < n
  · simp [cellFind_filter, hb, Nat.not_le.mpr hb]
  · have : n ≤ b := by omega
    simp [cellFind_filter, hb, this]

@[simp] theorem Memory.read_zeros {w : Nat} (n b : Nat) : (Memory.zeros n : Memory w).read 0 b = 0 := by
  by_cases h : b < n <;> simp [Memory.zeros, Memory.read, cellFind, h]

@[simp] theorem Memory.write_zeroed {w : Nat} (m : Memory w) (a : Nat) (v : BitVec w) :
    (m.write a v).zeroed = m.zeroed := by
  unfold Memory.write; split <;> rfl

@[simp] theorem Memory.zeroFill_zeroed {w : Nat} (m : Memory w) (n : Nat) :
    (m.zeroFill n).zeroed = max m.zeroed n := rfl

/-- The index order of `rising`, as a chain on the tail. -/
theorem rising_cons {w : Nat} (c : Nat × BitVec w) (l : List (Nat × BitVec w)) :
    rising (c :: l) = true ↔ (∀ d ∈ l.head?, c.1 < d.1) ∧ rising l = true := by
  cases l with
  | nil => simp [rising]
  | cons d rest => simp [rising]

theorem cellPut_head {w : Nat} (l : List (Nat × BitVec w)) (a : Nat) (v : BitVec w) (n : Nat)
    (hl : ∀ d ∈ l.head?, n < d.1) (ha : n < a) : ∀ d ∈ (cellPut l a v).head?, n < d.1 := by
  cases l with
  | nil => simp [cellPut, ha]
  | cons c rest =>
    obtain ⟨k, u⟩ := c
    have hk : n < k := hl (k, u) (by simp)
    unfold cellPut
    split
    · simp [ha]
    · split <;> simp [ha, hk]

theorem rising_put {w : Nat} (l : List (Nat × BitVec w)) (a : Nat) (v : BitVec w) (h : rising l = true) :
    rising (cellPut l a v) = true := by
  induction l with
  | nil => rfl
  | cons c rest ih =>
    obtain ⟨k, u⟩ := c
    rw [rising_cons] at h
    unfold cellPut
    split
    · next hk => subst hk; rw [rising_cons]; exact ⟨by simpa using h.1, h.2⟩
    · split
      · next hk => rw [rising_cons, rising_cons]; exact ⟨by simp [hk], h⟩
      · next hne hlt =>
        rw [rising_cons]
        exact ⟨cellPut_head rest a v k h.1 (by omega), ih h.2⟩

theorem rising_tail_lt {w : Nat} (l : List (Nat × BitVec w)) (n : Nat) (hl : ∀ d ∈ l.head?, n < d.1)
    (h : rising l = true) : ∀ d ∈ l, n < d.1 := by
  induction l generalizing n with
  | nil => simp
  | cons c rest ih =>
    rw [rising_cons] at h
    have hc : n < c.1 := hl c (by simp)
    intro d hd
    rcases List.mem_cons.mp hd with rfl | hd
    · exact hc
    · exact Nat.lt_trans hc (ih c.1 h.1 h.2 d hd)

theorem rising_sublist {w : Nat} (l l' : List (Nat × BitVec w)) (h : rising l = true) (hs : l'.Sublist l) :
    rising l' = true := by
  induction hs with
  | slnil => rfl
  | cons c hs ih => rw [rising_cons] at h; exact ih h.2
  | cons_cons c hs ih =>
    rw [rising_cons] at h ⊢
    refine ⟨fun d hd => ?_, ih h.2⟩
    exact rising_tail_lt _ c.1 h.1 h.2 d (hs.subset (List.mem_of_mem_head? hd))

theorem cellDrop_sublist {w : Nat} (l : List (Nat × BitVec w)) (a : Nat) : (cellDrop l a).Sublist l := by
  induction l with
  | nil => exact List.Sublist.slnil
  | cons c rest ih =>
    obtain ⟨k, u⟩ := c
    unfold cellDrop
    split
    · exact ih.cons _
    · exact ih.cons_cons _

theorem cellPut_mem {w : Nat} (l : List (Nat × BitVec w)) (a : Nat) (v : BitVec w) :
    ∀ d ∈ cellPut l a v, d = (a, v) ∨ d ∈ l := by
  induction l with
  | nil => simp [cellPut]
  | cons c rest ih =>
    obtain ⟨k, u⟩ := c
    intro d hd
    unfold cellPut at hd
    split at hd
    · rcases List.mem_cons.mp hd with h | h <;> simp [h]
    · split at hd
      · rcases List.mem_cons.mp hd with h | h
        · simp [h]
        · exact .inr h
      · rcases List.mem_cons.mp hd with h | h
        · simp [h]
        · rcases ih d h with h | h <;> simp [h]

theorem Memory.wf_iff {w : Nat} (m : Memory w) :
    m.wf = true ↔ rising m.cells = true ∧ ∀ c ∈ m.cells, ¬(c.2 = 0 ∧ c.1 < m.zeroed) := by
  simp only [Memory.wf, Bool.and_eq_true, List.all_eq_true, Bool.not_eq_true', Bool.and_eq_false_iff, beq_eq_false_iff_ne,
    decide_eq_false_iff_not, not_and_or, ne_eq]

/-- Writing keeps the canonical form. -/
theorem Memory.wf_write {w : Nat} (m : Memory w) (a : Nat) (v : BitVec w) (h : m.wf = true) :
    (m.write a v).wf = true := by
  rw [Memory.wf_iff] at h ⊢
  unfold Memory.write
  split
  · exact ⟨rising_sublist _ _ h.1 (cellDrop_sublist _ _), fun c hc => h.2 c ((cellDrop_sublist _ _).subset hc)⟩
  · next hv =>
    refine ⟨rising_put _ _ _ h.1, fun c hc => ?_⟩
    rcases cellPut_mem _ _ _ c hc with rfl | hc
    · exact hv
    · exact h.2 c hc

/-- The zero fill keeps the canonical form. -/
theorem Memory.wf_zeroFill {w : Nat} (m : Memory w) (n : Nat) (h : m.wf = true) : (m.zeroFill n).wf = true := by
  rw [Memory.wf_iff] at h ⊢
  refine ⟨rising_sublist _ _ h.1 List.filter_sublist, fun c hc => ?_⟩
  have hc' := List.mem_filter.mp hc
  have hn : n ≤ c.1 := by simpa using hc'.2
  have h0 := h.2 c hc'.1
  rintro ⟨h1, h2⟩
  exact h0 ⟨h1, by simp [Memory.zeroFill] at h2; omega⟩

@[simp] theorem Memory.wf_zeros {w : Nat} (n : Nat) : (Memory.zeros n : Memory w).wf = true := rfl

@[simp] theorem Memory.wf_unwritten {w : Nat} : (Memory.unwritten : Memory w).wf = true := rfl

end Sys2Proof.Machine
end

