-- ==== Sys2Proof/Laws/State.lean ====
section
/-! SUPPORT. One lemma for each field of State and each update of State: what the update leaves in the field.  Each is
true by rfl, so that no proof unfolds a record update. -/

namespace Sys2Proof.Machine

/-! ### setV -/

@[simp] theorem State.setV_cfg (s : State) (i : Nat) (w : Word) :
    (s.setV i w).cfg = s.cfg := rfl
@[simp] theorem State.setV_host (s : State) (i : Nat) (w : Word) :
    (s.setV i w).host = s.host := rfl
@[simp] theorem State.setV_resp (s : State) (i : Nat) (w : Word) :
    (s.setV i w).resp = s.resp := rfl
@[simp] theorem State.setV_epoch (s : State) (i : Nat) (w : Word) :
    (s.setV i w).epoch = s.epoch := rfl
@[simp] theorem State.setV_polls (s : State) (i : Nat) (w : Word) :
    (s.setV i w).polls = s.polls := rfl
@[simp] theorem State.setV_running (s : State) (i : Nat) (w : Word) :
    (s.setV i w).running = s.running := rfl
@[simp] theorem State.setV_devok (s : State) (i : Nat) (w : Word) :
    (s.setV i w).devok = s.devok := rfl
@[simp] theorem State.setV_cmdok (s : State) (i : Nat) (w : Word) :
    (s.setV i w).cmdok = s.cmdok := rfl
@[simp] theorem State.setV_flags (s : State) (i : Nat) (w : Word) :
    (s.setV i w).flags = s.flags := rfl
@[simp] theorem State.setV_lasterr (s : State) (i : Nat) (w : Word) :
    (s.setV i w).lasterr = s.lasterr := rfl
@[simp] theorem State.setV_errinfo (s : State) (i : Nat) (w : Word) :
    (s.setV i w).errinfo = s.errinfo := rfl
@[simp] theorem State.setV_msel (s : State) (i : Nat) (w : Word) :
    (s.setV i w).msel = s.msel := rfl
@[simp] theorem State.setV_maddr (s : State) (i : Nat) (w : Word) :
    (s.setV i w).maddr = s.maddr := rfl
@[simp] theorem State.setV_v (s : State) (i : Nat) (w : Word) :
    (s.setV i w).v = s.v.setIfInBounds i w := rfl
@[simp] theorem State.setV_x (s : State) (i : Nat) (w : Word) :
    (s.setV i w).x = s.x := rfl
@[simp] theorem State.setV_dlreq (s : State) (i : Nat) (w : Word) :
    (s.setV i w).dlreq = s.dlreq := rfl
@[simp] theorem State.setV_dlbase (s : State) (i : Nat) (w : Word) :
    (s.setV i w).dlbase = s.dlbase := rfl
@[simp] theorem State.setV_dllen (s : State) (i : Nat) (w : Word) :
    (s.setV i w).dllen = s.dllen := rfl
@[simp] theorem State.setV_ps (s : State) (i : Nat) (w : Word) :
    (s.setV i w).ps = s.ps := rfl
@[simp] theorem State.setV_pa (s : State) (i : Nat) (w : Word) :
    (s.setV i w).pa = s.pa := rfl
@[simp] theorem State.setV_bqz1 (s : State) (i : Nat) (w : Word) :
    (s.setV i w).bqz1 = s.bqz1 := rfl
@[simp] theorem State.setV_bqz2 (s : State) (i : Nat) (w : Word) :
    (s.setV i w).bqz2 = s.bqz2 := rfl
@[simp] theorem State.setV_bqy (s : State) (i : Nat) (w : Word) :
    (s.setV i w).bqy = s.bqy := rfl
@[simp] theorem State.setV_pv (s : State) (i : Nat) (w : Word) :
    (s.setV i w).pv = s.pv := rfl
@[simp] theorem State.setV_env (s : State) (i : Nat) (w : Word) :
    (s.setV i w).env = s.env := rfl
@[simp] theorem State.setV_xbuf (s : State) (i : Nat) (w : Word) :
    (s.setV i w).xbuf = s.xbuf := rfl
@[simp] theorem State.setV_ybuf (s : State) (i : Nat) (w : Word) :
    (s.setV i w).ybuf = s.ybuf := rfl
@[simp] theorem State.setV_dm (s : State) (i : Nat) (w : Word) :
    (s.setV i w).dm = s.dm := rfl

/-! ### setX -/

@[simp] theorem State.setX_cfg (s : State) (i : Nat) (w : Word) :
    (s.setX i w).cfg = s.cfg := rfl
@[simp] theorem State.setX_host (s : State) (i : Nat) (w : Word) :
    (s.setX i w).host = s.host := rfl
@[simp] theorem State.setX_resp (s : State) (i : Nat) (w : Word) :
    (s.setX i w).resp = s.resp := rfl
@[simp] theorem State.setX_epoch (s : State) (i : Nat) (w : Word) :
    (s.setX i w).epoch = s.epoch := rfl
@[simp] theorem State.setX_polls (s : State) (i : Nat) (w : Word) :
    (s.setX i w).polls = s.polls := rfl
@[simp] theorem State.setX_running (s : State) (i : Nat) (w : Word) :
    (s.setX i w).running = s.running := rfl
@[simp] theorem State.setX_devok (s : State) (i : Nat) (w : Word) :
    (s.setX i w).devok = s.devok := rfl
@[simp] theorem State.setX_cmdok (s : State) (i : Nat) (w : Word) :
    (s.setX i w).cmdok = s.cmdok := rfl
@[simp] theorem State.setX_flags (s : State) (i : Nat) (w : Word) :
    (s.setX i w).flags = s.flags := rfl
@[simp] theorem State.setX_lasterr (s : State) (i : Nat) (w : Word) :
    (s.setX i w).lasterr = s.lasterr := rfl
@[simp] theorem State.setX_errinfo (s : State) (i : Nat) (w : Word) :
    (s.setX i w).errinfo = s.errinfo := rfl
@[simp] theorem State.setX_msel (s : State) (i : Nat) (w : Word) :
    (s.setX i w).msel = s.msel := rfl
@[simp] theorem State.setX_maddr (s : State) (i : Nat) (w : Word) :
    (s.setX i w).maddr = s.maddr := rfl
@[simp] theorem State.setX_v (s : State) (i : Nat) (w : Word) :
    (s.setX i w).v = s.v := rfl
@[simp] theorem State.setX_x (s : State) (i : Nat) (w : Word) :
    (s.setX i w).x = s.x.setIfInBounds i w := rfl
@[simp] theorem State.setX_dlreq (s : State) (i : Nat) (w : Word) :
    (s.setX i w).dlreq = s.dlreq := rfl
@[simp] theorem State.setX_dlbase (s : State) (i : Nat) (w : Word) :
    (s.setX i w).dlbase = s.dlbase := rfl
@[simp] theorem State.setX_dllen (s : State) (i : Nat) (w : Word) :
    (s.setX i w).dllen = s.dllen := rfl
@[simp] theorem State.setX_ps (s : State) (i : Nat) (w : Word) :
    (s.setX i w).ps = s.ps := rfl
@[simp] theorem State.setX_pa (s : State) (i : Nat) (w : Word) :
    (s.setX i w).pa = s.pa := rfl
@[simp] theorem State.setX_bqz1 (s : State) (i : Nat) (w : Word) :
    (s.setX i w).bqz1 = s.bqz1 := rfl
@[simp] theorem State.setX_bqz2 (s : State) (i : Nat) (w : Word) :
    (s.setX i w).bqz2 = s.bqz2 := rfl
@[simp] theorem State.setX_bqy (s : State) (i : Nat) (w : Word) :
    (s.setX i w).bqy = s.bqy := rfl
@[simp] theorem State.setX_pv (s : State) (i : Nat) (w : Word) :
    (s.setX i w).pv = s.pv := rfl
@[simp] theorem State.setX_env (s : State) (i : Nat) (w : Word) :
    (s.setX i w).env = s.env := rfl
@[simp] theorem State.setX_xbuf (s : State) (i : Nat) (w : Word) :
    (s.setX i w).xbuf = s.xbuf := rfl
@[simp] theorem State.setX_ybuf (s : State) (i : Nat) (w : Word) :
    (s.setX i w).ybuf = s.ybuf := rfl
@[simp] theorem State.setX_dm (s : State) (i : Nat) (w : Word) :
    (s.setX i w).dm = s.dm := rfl

/-! ### noteSat -/

@[simp] theorem State.noteSat_cfg (s : State) (b : Bool) :
    (s.noteSat b).cfg = s.cfg := rfl
@[simp] theorem State.noteSat_host (s : State) (b : Bool) :
    (s.noteSat b).host = s.host := rfl
@[simp] theorem State.noteSat_resp (s : State) (b : Bool) :
    (s.noteSat b).resp = s.resp := rfl
@[simp] theorem State.noteSat_epoch (s : State) (b : Bool) :
    (s.noteSat b).epoch = s.epoch := rfl
@[simp] theorem State.noteSat_polls (s : State) (b : Bool) :
    (s.noteSat b).polls = s.polls := rfl
@[simp] theorem State.noteSat_running (s : State) (b : Bool) :
    (s.noteSat b).running = s.running := rfl
@[simp] theorem State.noteSat_devok (s : State) (b : Bool) :
    (s.noteSat b).devok = s.devok := rfl
@[simp] theorem State.noteSat_cmdok (s : State) (b : Bool) :
    (s.noteSat b).cmdok = s.cmdok := rfl
@[simp] theorem State.noteSat_flags (s : State) (b : Bool) :
    (s.noteSat b).flags = s.flags ||| (if b then flagBit 0 else 0) := rfl
@[simp] theorem State.noteSat_lasterr (s : State) (b : Bool) :
    (s.noteSat b).lasterr = s.lasterr := rfl
@[simp] theorem State.noteSat_errinfo (s : State) (b : Bool) :
    (s.noteSat b).errinfo = s.errinfo := rfl
@[simp] theorem State.noteSat_msel (s : State) (b : Bool) :
    (s.noteSat b).msel = s.msel := rfl
@[simp] theorem State.noteSat_maddr (s : State) (b : Bool) :
    (s.noteSat b).maddr = s.maddr := rfl
@[simp] theorem State.noteSat_v (s : State) (b : Bool) :
    (s.noteSat b).v = s.v := rfl
@[simp] theorem State.noteSat_x (s : State) (b : Bool) :
    (s.noteSat b).x = s.x := rfl
@[simp] theorem State.noteSat_dlreq (s : State) (b : Bool) :
    (s.noteSat b).dlreq = s.dlreq := rfl
@[simp] theorem State.noteSat_dlbase (s : State) (b : Bool) :
    (s.noteSat b).dlbase = s.dlbase := rfl
@[simp] theorem State.noteSat_dllen (s : State) (b : Bool) :
    (s.noteSat b).dllen = s.dllen := rfl
@[simp] theorem State.noteSat_ps (s : State) (b : Bool) :
    (s.noteSat b).ps = s.ps := rfl
@[simp] theorem State.noteSat_pa (s : State) (b : Bool) :
    (s.noteSat b).pa = s.pa := rfl
@[simp] theorem State.noteSat_bqz1 (s : State) (b : Bool) :
    (s.noteSat b).bqz1 = s.bqz1 := rfl
@[simp] theorem State.noteSat_bqz2 (s : State) (b : Bool) :
    (s.noteSat b).bqz2 = s.bqz2 := rfl
@[simp] theorem State.noteSat_bqy (s : State) (b : Bool) :
    (s.noteSat b).bqy = s.bqy := rfl
@[simp] theorem State.noteSat_pv (s : State) (b : Bool) :
    (s.noteSat b).pv = s.pv := rfl
@[simp] theorem State.noteSat_env (s : State) (b : Bool) :
    (s.noteSat b).env = s.env := rfl
@[simp] theorem State.noteSat_xbuf (s : State) (b : Bool) :
    (s.noteSat b).xbuf = s.xbuf := rfl
@[simp] theorem State.noteSat_ybuf (s : State) (b : Bool) :
    (s.noteSat b).ybuf = s.ybuf := rfl
@[simp] theorem State.noteSat_dm (s : State) (b : Bool) :
    (s.noteSat b).dm = s.dm := rfl

/-! ### record -/

@[simp] theorem State.record_cfg (s : State) (e : Err) (info : Word) :
    (s.record e info).cfg = s.cfg := rfl
@[simp] theorem State.record_host (s : State) (e : Err) (info : Word) :
    (s.record e info).host = s.host := rfl
@[simp] theorem State.record_resp (s : State) (e : Err) (info : Word) :
    (s.record e info).resp = s.resp := rfl
@[simp] theorem State.record_epoch (s : State) (e : Err) (info : Word) :
    (s.record e info).epoch = s.epoch := rfl
@[simp] theorem State.record_polls (s : State) (e : Err) (info : Word) :
    (s.record e info).polls = s.polls := rfl
@[simp] theorem State.record_running (s : State) (e : Err) (info : Word) :
    (s.record e info).running = s.running := rfl
@[simp] theorem State.record_devok (s : State) (e : Err) (info : Word) :
    (s.record e info).devok = s.devok := rfl
@[simp] theorem State.record_cmdok (s : State) (e : Err) (info : Word) :
    (s.record e info).cmdok = s.cmdok := rfl
@[simp] theorem State.record_flags (s : State) (e : Err) (info : Word) :
    (s.record e info).flags = s.flags ||| flagBit e.code := rfl
@[simp] theorem State.record_lasterr (s : State) (e : Err) (info : Word) :
    (s.record e info).lasterr = some e := rfl
@[simp] theorem State.record_errinfo (s : State) (e : Err) (info : Word) :
    (s.record e info).errinfo = info := rfl
@[simp] theorem State.record_msel (s : State) (e : Err) (info : Word) :
    (s.record e info).msel = s.msel := rfl
@[simp] theorem State.record_maddr (s : State) (e : Err) (info : Word) :
    (s.record e info).maddr = s.maddr := rfl
@[simp] theorem State.record_v (s : State) (e : Err) (info : Word) :
    (s.record e info).v = s.v := rfl
@[simp] theorem State.record_x (s : State) (e : Err) (info : Word) :
    (s.record e info).x = s.x := rfl
@[simp] theorem State.record_dlreq (s : State) (e : Err) (info : Word) :
    (s.record e info).dlreq = s.dlreq := rfl
@[simp] theorem State.record_dlbase (s : State) (e : Err) (info : Word) :
    (s.record e info).dlbase = s.dlbase := rfl
@[simp] theorem State.record_dllen (s : State) (e : Err) (info : Word) :
    (s.record e info).dllen = s.dllen := rfl
@[simp] theorem State.record_ps (s : State) (e : Err) (info : Word) :
    (s.record e info).ps = s.ps := rfl
@[simp] theorem State.record_pa (s : State) (e : Err) (info : Word) :
    (s.record e info).pa = s.pa := rfl
@[simp] theorem State.record_bqz1 (s : State) (e : Err) (info : Word) :
    (s.record e info).bqz1 = s.bqz1 := rfl
@[simp] theorem State.record_bqz2 (s : State) (e : Err) (info : Word) :
    (s.record e info).bqz2 = s.bqz2 := rfl
@[simp] theorem State.record_bqy (s : State) (e : Err) (info : Word) :
    (s.record e info).bqy = s.bqy := rfl
@[simp] theorem State.record_pv (s : State) (e : Err) (info : Word) :
    (s.record e info).pv = s.pv := rfl
@[simp] theorem State.record_env (s : State) (e : Err) (info : Word) :
    (s.record e info).env = s.env := rfl
@[simp] theorem State.record_xbuf (s : State) (e : Err) (info : Word) :
    (s.record e info).xbuf = s.xbuf := rfl
@[simp] theorem State.record_ybuf (s : State) (e : Err) (info : Word) :
    (s.record e info).ybuf = s.ybuf := rfl
@[simp] theorem State.record_dm (s : State) (e : Err) (info : Word) :
    (s.record e info).dm = s.dm := rfl

/-! ### raise -/

@[simp] theorem State.raise_cfg (s : State) (e : Err) (info : Word) :
    (s.raise e info).cfg = s.cfg := rfl
@[simp] theorem State.raise_host (s : State) (e : Err) (info : Word) :
    (s.raise e info).host = s.host := rfl
@[simp] theorem State.raise_resp (s : State) (e : Err) (info : Word) :
    (s.raise e info).resp = s.resp := rfl
@[simp] theorem State.raise_epoch (s : State) (e : Err) (info : Word) :
    (s.raise e info).epoch = s.epoch := rfl
@[simp] theorem State.raise_polls (s : State) (e : Err) (info : Word) :
    (s.raise e info).polls = s.polls := rfl
@[simp] theorem State.raise_running (s : State) (e : Err) (info : Word) :
    (s.raise e info).running = none := rfl
@[simp] theorem State.raise_devok (s : State) (e : Err) (info : Word) :
    (s.raise e info).devok = s.devok := rfl
@[simp] theorem State.raise_cmdok (s : State) (e : Err) (info : Word) :
    (s.raise e info).cmdok = false := rfl
@[simp] theorem State.raise_flags (s : State) (e : Err) (info : Word) :
    (s.raise e info).flags = s.flags ||| flagBit e.code := rfl
@[simp] theorem State.raise_lasterr (s : State) (e : Err) (info : Word) :
    (s.raise e info).lasterr = some e := rfl
@[simp] theorem State.raise_errinfo (s : State) (e : Err) (info : Word) :
    (s.raise e info).errinfo = info := rfl
@[simp] theorem State.raise_msel (s : State) (e : Err) (info : Word) :
    (s.raise e info).msel = s.msel := rfl
@[simp] theorem State.raise_maddr (s : State) (e : Err) (info : Word) :
    (s.raise e info).maddr = s.maddr := rfl
@[simp] theorem State.raise_v (s : State) (e : Err) (info : Word) :
    (s.raise e info).v = s.v := rfl
@[simp] theorem State.raise_x (s : State) (e : Err) (info : Word) :
    (s.raise e info).x = s.x := rfl
@[simp] theorem State.raise_dlreq (s : State) (e : Err) (info : Word) :
    (s.raise e info).dlreq = s.dlreq := rfl
@[simp] theorem State.raise_dlbase (s : State) (e : Err) (info : Word) :
    (s.raise e info).dlbase = s.dlbase := rfl
@[simp] theorem State.raise_dllen (s : State) (e : Err) (info : Word) :
    (s.raise e info).dllen = s.dllen := rfl
@[simp] theorem State.raise_ps (s : State) (e : Err) (info : Word) :
    (s.raise e info).ps = s.ps := rfl
@[simp] theorem State.raise_pa (s : State) (e : Err) (info : Word) :
    (s.raise e info).pa = s.pa := rfl
@[simp] theorem State.raise_bqz1 (s : State) (e : Err) (info : Word) :
    (s.raise e info).bqz1 = s.bqz1 := rfl
@[simp] theorem State.raise_bqz2 (s : State) (e : Err) (info : Word) :
    (s.raise e info).bqz2 = s.bqz2 := rfl
@[simp] theorem State.raise_bqy (s : State) (e : Err) (info : Word) :
    (s.raise e info).bqy = s.bqy := rfl
@[simp] theorem State.raise_pv (s : State) (e : Err) (info : Word) :
    (s.raise e info).pv = s.pv := rfl
@[simp] theorem State.raise_env (s : State) (e : Err) (info : Word) :
    (s.raise e info).env = s.env := rfl
@[simp] theorem State.raise_xbuf (s : State) (e : Err) (info : Word) :
    (s.raise e info).xbuf = s.xbuf := rfl
@[simp] theorem State.raise_ybuf (s : State) (e : Err) (info : Word) :
    (s.raise e info).ybuf = s.ybuf := rfl
@[simp] theorem State.raise_dm (s : State) (e : Err) (info : Word) :
    (s.raise e info).dm = s.dm := rfl

/-! ### complete -/

@[simp] theorem State.complete_cfg (s : State) :
    (s.complete).cfg = s.cfg := rfl
@[simp] theorem State.complete_host (s : State) :
    (s.complete).host = s.host := rfl
@[simp] theorem State.complete_resp (s : State) :
    (s.complete).resp = s.resp := rfl
@[simp] theorem State.complete_epoch (s : State) :
    (s.complete).epoch = s.epoch := rfl
@[simp] theorem State.complete_polls (s : State) :
    (s.complete).polls = s.polls := rfl
@[simp] theorem State.complete_running (s : State) :
    (s.complete).running = none := rfl
@[simp] theorem State.complete_devok (s : State) :
    (s.complete).devok = s.devok := rfl
@[simp] theorem State.complete_cmdok (s : State) :
    (s.complete).cmdok = true := rfl
@[simp] theorem State.complete_flags (s : State) :
    (s.complete).flags = s.flags := rfl
@[simp] theorem State.complete_lasterr (s : State) :
    (s.complete).lasterr = s.lasterr := rfl
@[simp] theorem State.complete_errinfo (s : State) :
    (s.complete).errinfo = s.errinfo := rfl
@[simp] theorem State.complete_msel (s : State) :
    (s.complete).msel = s.msel := rfl
@[simp] theorem State.complete_maddr (s : State) :
    (s.complete).maddr = s.maddr := rfl
@[simp] theorem State.complete_v (s : State) :
    (s.complete).v = s.v := rfl
@[simp] theorem State.complete_x (s : State) :
    (s.complete).x = s.x := rfl
@[simp] theorem State.complete_dlreq (s : State) :
    (s.complete).dlreq = s.dlreq := rfl
@[simp] theorem State.complete_dlbase (s : State) :
    (s.complete).dlbase = s.dlbase := rfl
@[simp] theorem State.complete_dllen (s : State) :
    (s.complete).dllen = s.dllen := rfl
@[simp] theorem State.complete_ps (s : State) :
    (s.complete).ps = s.ps := rfl
@[simp] theorem State.complete_pa (s : State) :
    (s.complete).pa = s.pa := rfl
@[simp] theorem State.complete_bqz1 (s : State) :
    (s.complete).bqz1 = s.bqz1 := rfl
@[simp] theorem State.complete_bqz2 (s : State) :
    (s.complete).bqz2 = s.bqz2 := rfl
@[simp] theorem State.complete_bqy (s : State) :
    (s.complete).bqy = s.bqy := rfl
@[simp] theorem State.complete_pv (s : State) :
    (s.complete).pv = s.pv := rfl
@[simp] theorem State.complete_env (s : State) :
    (s.complete).env = s.env := rfl
@[simp] theorem State.complete_xbuf (s : State) :
    (s.complete).xbuf = s.xbuf := rfl
@[simp] theorem State.complete_ybuf (s : State) :
    (s.complete).ybuf = s.ybuf := rfl
@[simp] theorem State.complete_dm (s : State) :
    (s.complete).dm = s.dm := rfl

/-! ### setOnePole -/

@[simp] theorem State.setOnePole_cfg (s : State) (f : Nat) (n1 y : Word) :
    (s.setOnePole f n1 y).cfg = s.cfg := rfl
@[simp] theorem State.setOnePole_host (s : State) (f : Nat) (n1 y : Word) :
    (s.setOnePole f n1 y).host = s.host := rfl
@[simp] theorem State.setOnePole_resp (s : State) (f : Nat) (n1 y : Word) :
    (s.setOnePole f n1 y).resp = s.resp := rfl
@[simp] theorem State.setOnePole_epoch (s : State) (f : Nat) (n1 y : Word) :
    (s.setOnePole f n1 y).epoch = s.epoch := rfl
@[simp] theorem State.setOnePole_polls (s : State) (f : Nat) (n1 y : Word) :
    (s.setOnePole f n1 y).polls = s.polls := rfl
@[simp] theorem State.setOnePole_running (s : State) (f : Nat) (n1 y : Word) :
    (s.setOnePole f n1 y).running = s.running := rfl
@[simp] theorem State.setOnePole_devok (s : State) (f : Nat) (n1 y : Word) :
    (s.setOnePole f n1 y).devok = s.devok := rfl
@[simp] theorem State.setOnePole_cmdok (s : State) (f : Nat) (n1 y : Word) :
    (s.setOnePole f n1 y).cmdok = s.cmdok := rfl
@[simp] theorem State.setOnePole_flags (s : State) (f : Nat) (n1 y : Word) :
    (s.setOnePole f n1 y).flags = s.flags := rfl
@[simp] theorem State.setOnePole_lasterr (s : State) (f : Nat) (n1 y : Word) :
    (s.setOnePole f n1 y).lasterr = s.lasterr := rfl
@[simp] theorem State.setOnePole_errinfo (s : State) (f : Nat) (n1 y : Word) :
    (s.setOnePole f n1 y).errinfo = s.errinfo := rfl
@[simp] theorem State.setOnePole_msel (s : State) (f : Nat) (n1 y : Word) :
    (s.setOnePole f n1 y).msel = s.msel := rfl
@[simp] theorem State.setOnePole_maddr (s : State) (f : Nat) (n1 y : Word) :
    (s.setOnePole f n1 y).maddr = s.maddr := rfl
@[simp] theorem State.setOnePole_v (s : State) (f : Nat) (n1 y : Word) :
    (s.setOnePole f n1 y).v = s.v := rfl
@[simp] theorem State.setOnePole_x (s : State) (f : Nat) (n1 y : Word) :
    (s.setOnePole f n1 y).x = s.x := rfl
@[simp] theorem State.setOnePole_dlreq (s : State) (f : Nat) (n1 y : Word) :
    (s.setOnePole f n1 y).dlreq = s.dlreq := rfl
@[simp] theorem State.setOnePole_dlbase (s : State) (f : Nat) (n1 y : Word) :
    (s.setOnePole f n1 y).dlbase = s.dlbase := rfl
@[simp] theorem State.setOnePole_dllen (s : State) (f : Nat) (n1 y : Word) :
    (s.setOnePole f n1 y).dllen = s.dllen := rfl
@[simp] theorem State.setOnePole_ps (s : State) (f : Nat) (n1 y : Word) :
    (s.setOnePole f n1 y).ps = s.ps := rfl
@[simp] theorem State.setOnePole_pa (s : State) (f : Nat) (n1 y : Word) :
    (s.setOnePole f n1 y).pa = s.pa := rfl
@[simp] theorem State.setOnePole_bqz1 (s : State) (f : Nat) (n1 y : Word) :
    (s.setOnePole f n1 y).bqz1 = s.bqz1.setIfInBounds f n1 := rfl
@[simp] theorem State.setOnePole_bqz2 (s : State) (f : Nat) (n1 y : Word) :
    (s.setOnePole f n1 y).bqz2 = s.bqz2 := rfl
@[simp] theorem State.setOnePole_bqy (s : State) (f : Nat) (n1 y : Word) :
    (s.setOnePole f n1 y).bqy = s.bqy.setIfInBounds f y := rfl
@[simp] theorem State.setOnePole_pv (s : State) (f : Nat) (n1 y : Word) :
    (s.setOnePole f n1 y).pv = s.pv := rfl
@[simp] theorem State.setOnePole_env (s : State) (f : Nat) (n1 y : Word) :
    (s.setOnePole f n1 y).env = s.env := rfl
@[simp] theorem State.setOnePole_xbuf (s : State) (f : Nat) (n1 y : Word) :
    (s.setOnePole f n1 y).xbuf = s.xbuf := rfl
@[simp] theorem State.setOnePole_ybuf (s : State) (f : Nat) (n1 y : Word) :
    (s.setOnePole f n1 y).ybuf = s.ybuf := rfl
@[simp] theorem State.setOnePole_dm (s : State) (f : Nat) (n1 y : Word) :
    (s.setOnePole f n1 y).dm = s.dm := rfl

/-! ### setTwoPole -/

@[simp] theorem State.setTwoPole_cfg (s : State) (f : Nat) (n1 n2 y : Word) :
    (s.setTwoPole f n1 n2 y).cfg = s.cfg := rfl
@[simp] theorem State.setTwoPole_host (s : State) (f : Nat) (n1 n2 y : Word) :
    (s.setTwoPole f n1 n2 y).host = s.host := rfl
@[simp] theorem State.setTwoPole_resp (s : State) (f : Nat) (n1 n2 y : Word) :
    (s.setTwoPole f n1 n2 y).resp = s.resp := rfl
@[simp] theorem State.setTwoPole_epoch (s : State) (f : Nat) (n1 n2 y : Word) :
    (s.setTwoPole f n1 n2 y).epoch = s.epoch := rfl
@[simp] theorem State.setTwoPole_polls (s : State) (f : Nat) (n1 n2 y : Word) :
    (s.setTwoPole f n1 n2 y).polls = s.polls := rfl
@[simp] theorem State.setTwoPole_running (s : State) (f : Nat) (n1 n2 y : Word) :
    (s.setTwoPole f n1 n2 y).running = s.running := rfl
@[simp] theorem State.setTwoPole_devok (s : State) (f : Nat) (n1 n2 y : Word) :
    (s.setTwoPole f n1 n2 y).devok = s.devok := rfl
@[simp] theorem State.setTwoPole_cmdok (s : State) (f : Nat) (n1 n2 y : Word) :
    (s.setTwoPole f n1 n2 y).cmdok = s.cmdok := rfl
@[simp] theorem State.setTwoPole_flags (s : State) (f : Nat) (n1 n2 y : Word) :
    (s.setTwoPole f n1 n2 y).flags = s.flags := rfl
@[simp] theorem State.setTwoPole_lasterr (s : State) (f : Nat) (n1 n2 y : Word) :
    (s.setTwoPole f n1 n2 y).lasterr = s.lasterr := rfl
@[simp] theorem State.setTwoPole_errinfo (s : State) (f : Nat) (n1 n2 y : Word) :
    (s.setTwoPole f n1 n2 y).errinfo = s.errinfo := rfl
@[simp] theorem State.setTwoPole_msel (s : State) (f : Nat) (n1 n2 y : Word) :
    (s.setTwoPole f n1 n2 y).msel = s.msel := rfl
@[simp] theorem State.setTwoPole_maddr (s : State) (f : Nat) (n1 n2 y : Word) :
    (s.setTwoPole f n1 n2 y).maddr = s.maddr := rfl
@[simp] theorem State.setTwoPole_v (s : State) (f : Nat) (n1 n2 y : Word) :
    (s.setTwoPole f n1 n2 y).v = s.v := rfl
@[simp] theorem State.setTwoPole_x (s : State) (f : Nat) (n1 n2 y : Word) :
    (s.setTwoPole f n1 n2 y).x = s.x := rfl
@[simp] theorem State.setTwoPole_dlreq (s : State) (f : Nat) (n1 n2 y : Word) :
    (s.setTwoPole f n1 n2 y).dlreq = s.dlreq := rfl
@[simp] theorem State.setTwoPole_dlbase (s : State) (f : Nat) (n1 n2 y : Word) :
    (s.setTwoPole f n1 n2 y).dlbase = s.dlbase := rfl
@[simp] theorem State.setTwoPole_dllen (s : State) (f : Nat) (n1 n2 y : Word) :
    (s.setTwoPole f n1 n2 y).dllen = s.dllen := rfl
@[simp] theorem State.setTwoPole_ps (s : State) (f : Nat) (n1 n2 y : Word) :
    (s.setTwoPole f n1 n2 y).ps = s.ps := rfl
@[simp] theorem State.setTwoPole_pa (s : State) (f : Nat) (n1 n2 y : Word) :
    (s.setTwoPole f n1 n2 y).pa = s.pa := rfl
@[simp] theorem State.setTwoPole_bqz1 (s : State) (f : Nat) (n1 n2 y : Word) :
    (s.setTwoPole f n1 n2 y).bqz1 = s.bqz1.setIfInBounds f n1 := rfl
@[simp] theorem State.setTwoPole_bqz2 (s : State) (f : Nat) (n1 n2 y : Word) :
    (s.setTwoPole f n1 n2 y).bqz2 = s.bqz2.setIfInBounds f n2 := rfl
@[simp] theorem State.setTwoPole_bqy (s : State) (f : Nat) (n1 n2 y : Word) :
    (s.setTwoPole f n1 n2 y).bqy = s.bqy.setIfInBounds f y := rfl
@[simp] theorem State.setTwoPole_pv (s : State) (f : Nat) (n1 n2 y : Word) :
    (s.setTwoPole f n1 n2 y).pv = s.pv := rfl
@[simp] theorem State.setTwoPole_env (s : State) (f : Nat) (n1 n2 y : Word) :
    (s.setTwoPole f n1 n2 y).env = s.env := rfl
@[simp] theorem State.setTwoPole_xbuf (s : State) (f : Nat) (n1 n2 y : Word) :
    (s.setTwoPole f n1 n2 y).xbuf = s.xbuf := rfl
@[simp] theorem State.setTwoPole_ybuf (s : State) (f : Nat) (n1 n2 y : Word) :
    (s.setTwoPole f n1 n2 y).ybuf = s.ybuf := rfl
@[simp] theorem State.setTwoPole_dm (s : State) (f : Nat) (n1 n2 y : Word) :
    (s.setTwoPole f n1 n2 y).dm = s.dm := rfl

/-! ### writeDm -/

@[simp] theorem State.writeDm_cfg (s : State) (j : Nat) (w : Word) :
    (s.writeDm j w).cfg = s.cfg := rfl
@[simp] theorem State.writeDm_host (s : State) (j : Nat) (w : Word) :
    (s.writeDm j w).host = s.host := rfl
@[simp] theorem State.writeDm_resp (s : State) (j : Nat) (w : Word) :
    (s.writeDm j w).resp = s.resp := rfl
@[simp] theorem State.writeDm_epoch (s : State) (j : Nat) (w : Word) :
    (s.writeDm j w).epoch = s.epoch := rfl
@[simp] theorem State.writeDm_polls (s : State) (j : Nat) (w : Word) :
    (s.writeDm j w).polls = s.polls := rfl
@[simp] theorem State.writeDm_running (s : State) (j : Nat) (w : Word) :
    (s.writeDm j w).running = s.running := rfl
@[simp] theorem State.writeDm_devok (s : State) (j : Nat) (w : Word) :
    (s.writeDm j w).devok = s.devok := rfl
@[simp] theorem State.writeDm_cmdok (s : State) (j : Nat) (w : Word) :
    (s.writeDm j w).cmdok = s.cmdok := rfl
@[simp] theorem State.writeDm_flags (s : State) (j : Nat) (w : Word) :
    (s.writeDm j w).flags = s.flags := rfl
@[simp] theorem State.writeDm_lasterr (s : State) (j : Nat) (w : Word) :
    (s.writeDm j w).lasterr = s.lasterr := rfl
@[simp] theorem State.writeDm_errinfo (s : State) (j : Nat) (w : Word) :
    (s.writeDm j w).errinfo = s.errinfo := rfl
@[simp] theorem State.writeDm_msel (s : State) (j : Nat) (w : Word) :
    (s.writeDm j w).msel = s.msel := rfl
@[simp] theorem State.writeDm_maddr (s : State) (j : Nat) (w : Word) :
    (s.writeDm j w).maddr = s.maddr := rfl
@[simp] theorem State.writeDm_v (s : State) (j : Nat) (w : Word) :
    (s.writeDm j w).v = s.v := rfl
@[simp] theorem State.writeDm_x (s : State) (j : Nat) (w : Word) :
    (s.writeDm j w).x = s.x := rfl
@[simp] theorem State.writeDm_dlreq (s : State) (j : Nat) (w : Word) :
    (s.writeDm j w).dlreq = s.dlreq := rfl
@[simp] theorem State.writeDm_dlbase (s : State) (j : Nat) (w : Word) :
    (s.writeDm j w).dlbase = s.dlbase := rfl
@[simp] theorem State.writeDm_dllen (s : State) (j : Nat) (w : Word) :
    (s.writeDm j w).dllen = s.dllen := rfl
@[simp] theorem State.writeDm_ps (s : State) (j : Nat) (w : Word) :
    (s.writeDm j w).ps = s.ps := rfl
@[simp] theorem State.writeDm_pa (s : State) (j : Nat) (w : Word) :
    (s.writeDm j w).pa = s.pa := rfl
@[simp] theorem State.writeDm_bqz1 (s : State) (j : Nat) (w : Word) :
    (s.writeDm j w).bqz1 = s.bqz1 := rfl
@[simp] theorem State.writeDm_bqz2 (s : State) (j : Nat) (w : Word) :
    (s.writeDm j w).bqz2 = s.bqz2 := rfl
@[simp] theorem State.writeDm_bqy (s : State) (j : Nat) (w : Word) :
    (s.writeDm j w).bqy = s.bqy := rfl
@[simp] theorem State.writeDm_pv (s : State) (j : Nat) (w : Word) :
    (s.writeDm j w).pv = s.pv := rfl
@[simp] theorem State.writeDm_env (s : State) (j : Nat) (w : Word) :
    (s.writeDm j w).env = s.env := rfl
@[simp] theorem State.writeDm_xbuf (s : State) (j : Nat) (w : Word) :
    (s.writeDm j w).xbuf = s.xbuf := rfl
@[simp] theorem State.writeDm_ybuf (s : State) (j : Nat) (w : Word) :
    (s.writeDm j w).ybuf = s.ybuf := rfl
@[simp] theorem State.writeDm_dm (s : State) (j : Nat) (w : Word) :
    (s.writeDm j w).dm = s.dm.write j w := rfl

/-! ### writeY -/

@[simp] theorem State.writeY_cfg (s : State) (j : Nat) (w : Word) :
    (s.writeY j w).cfg = s.cfg := rfl
@[simp] theorem State.writeY_host (s : State) (j : Nat) (w : Word) :
    (s.writeY j w).host = s.host := rfl
@[simp] theorem State.writeY_resp (s : State) (j : Nat) (w : Word) :
    (s.writeY j w).resp = s.resp := rfl
@[simp] theorem State.writeY_epoch (s : State) (j : Nat) (w : Word) :
    (s.writeY j w).epoch = s.epoch := rfl
@[simp] theorem State.writeY_polls (s : State) (j : Nat) (w : Word) :
    (s.writeY j w).polls = s.polls := rfl
@[simp] theorem State.writeY_running (s : State) (j : Nat) (w : Word) :
    (s.writeY j w).running = s.running := rfl
@[simp] theorem State.writeY_devok (s : State) (j : Nat) (w : Word) :
    (s.writeY j w).devok = s.devok := rfl
@[simp] theorem State.writeY_cmdok (s : State) (j : Nat) (w : Word) :
    (s.writeY j w).cmdok = s.cmdok := rfl
@[simp] theorem State.writeY_flags (s : State) (j : Nat) (w : Word) :
    (s.writeY j w).flags = s.flags := rfl
@[simp] theorem State.writeY_lasterr (s : State) (j : Nat) (w : Word) :
    (s.writeY j w).lasterr = s.lasterr := rfl
@[simp] theorem State.writeY_errinfo (s : State) (j : Nat) (w : Word) :
    (s.writeY j w).errinfo = s.errinfo := rfl
@[simp] theorem State.writeY_msel (s : State) (j : Nat) (w : Word) :
    (s.writeY j w).msel = s.msel := rfl
@[simp] theorem State.writeY_maddr (s : State) (j : Nat) (w : Word) :
    (s.writeY j w).maddr = s.maddr := rfl
@[simp] theorem State.writeY_v (s : State) (j : Nat) (w : Word) :
    (s.writeY j w).v = s.v := rfl
@[simp] theorem State.writeY_x (s : State) (j : Nat) (w : Word) :
    (s.writeY j w).x = s.x := rfl
@[simp] theorem State.writeY_dlreq (s : State) (j : Nat) (w : Word) :
    (s.writeY j w).dlreq = s.dlreq := rfl
@[simp] theorem State.writeY_dlbase (s : State) (j : Nat) (w : Word) :
    (s.writeY j w).dlbase = s.dlbase := rfl
@[simp] theorem State.writeY_dllen (s : State) (j : Nat) (w : Word) :
    (s.writeY j w).dllen = s.dllen := rfl
@[simp] theorem State.writeY_ps (s : State) (j : Nat) (w : Word) :
    (s.writeY j w).ps = s.ps := rfl
@[simp] theorem State.writeY_pa (s : State) (j : Nat) (w : Word) :
    (s.writeY j w).pa = s.pa := rfl
@[simp] theorem State.writeY_bqz1 (s : State) (j : Nat) (w : Word) :
    (s.writeY j w).bqz1 = s.bqz1 := rfl
@[simp] theorem State.writeY_bqz2 (s : State) (j : Nat) (w : Word) :
    (s.writeY j w).bqz2 = s.bqz2 := rfl
@[simp] theorem State.writeY_bqy (s : State) (j : Nat) (w : Word) :
    (s.writeY j w).bqy = s.bqy := rfl
@[simp] theorem State.writeY_pv (s : State) (j : Nat) (w : Word) :
    (s.writeY j w).pv = s.pv := rfl
@[simp] theorem State.writeY_env (s : State) (j : Nat) (w : Word) :
    (s.writeY j w).env = s.env := rfl
@[simp] theorem State.writeY_xbuf (s : State) (j : Nat) (w : Word) :
    (s.writeY j w).xbuf = s.xbuf := rfl
@[simp] theorem State.writeY_ybuf (s : State) (j : Nat) (w : Word) :
    (s.writeY j w).ybuf = s.ybuf.write j w := rfl
@[simp] theorem State.writeY_dm (s : State) (j : Nat) (w : Word) :
    (s.writeY j w).dm = s.dm := rfl

/-! ### writeX -/

@[simp] theorem State.writeX_cfg (s : State) (j : Nat) (w : Word) :
    (s.writeX j w).cfg = s.cfg := rfl
@[simp] theorem State.writeX_host (s : State) (j : Nat) (w : Word) :
    (s.writeX j w).host = s.host := rfl
@[simp] theorem State.writeX_resp (s : State) (j : Nat) (w : Word) :
    (s.writeX j w).resp = s.resp := rfl
@[simp] theorem State.writeX_epoch (s : State) (j : Nat) (w : Word) :
    (s.writeX j w).epoch = s.epoch := rfl
@[simp] theorem State.writeX_polls (s : State) (j : Nat) (w : Word) :
    (s.writeX j w).polls = s.polls := rfl
@[simp] theorem State.writeX_running (s : State) (j : Nat) (w : Word) :
    (s.writeX j w).running = s.running := rfl
@[simp] theorem State.writeX_devok (s : State) (j : Nat) (w : Word) :
    (s.writeX j w).devok = s.devok := rfl
@[simp] theorem State.writeX_cmdok (s : State) (j : Nat) (w : Word) :
    (s.writeX j w).cmdok = s.cmdok := rfl
@[simp] theorem State.writeX_flags (s : State) (j : Nat) (w : Word) :
    (s.writeX j w).flags = s.flags := rfl
@[simp] theorem State.writeX_lasterr (s : State) (j : Nat) (w : Word) :
    (s.writeX j w).lasterr = s.lasterr := rfl
@[simp] theorem State.writeX_errinfo (s : State) (j : Nat) (w : Word) :
    (s.writeX j w).errinfo = s.errinfo := rfl
@[simp] theorem State.writeX_msel (s : State) (j : Nat) (w : Word) :
    (s.writeX j w).msel = s.msel := rfl
@[simp] theorem State.writeX_maddr (s : State) (j : Nat) (w : Word) :
    (s.writeX j w).maddr = s.maddr := rfl
@[simp] theorem State.writeX_v (s : State) (j : Nat) (w : Word) :
    (s.writeX j w).v = s.v := rfl
@[simp] theorem State.writeX_x (s : State) (j : Nat) (w : Word) :
    (s.writeX j w).x = s.x := rfl
@[simp] theorem State.writeX_dlreq (s : State) (j : Nat) (w : Word) :
    (s.writeX j w).dlreq = s.dlreq := rfl
@[simp] theorem State.writeX_dlbase (s : State) (j : Nat) (w : Word) :
    (s.writeX j w).dlbase = s.dlbase := rfl
@[simp] theorem State.writeX_dllen (s : State) (j : Nat) (w : Word) :
    (s.writeX j w).dllen = s.dllen := rfl
@[simp] theorem State.writeX_ps (s : State) (j : Nat) (w : Word) :
    (s.writeX j w).ps = s.ps := rfl
@[simp] theorem State.writeX_pa (s : State) (j : Nat) (w : Word) :
    (s.writeX j w).pa = s.pa := rfl
@[simp] theorem State.writeX_bqz1 (s : State) (j : Nat) (w : Word) :
    (s.writeX j w).bqz1 = s.bqz1 := rfl
@[simp] theorem State.writeX_bqz2 (s : State) (j : Nat) (w : Word) :
    (s.writeX j w).bqz2 = s.bqz2 := rfl
@[simp] theorem State.writeX_bqy (s : State) (j : Nat) (w : Word) :
    (s.writeX j w).bqy = s.bqy := rfl
@[simp] theorem State.writeX_pv (s : State) (j : Nat) (w : Word) :
    (s.writeX j w).pv = s.pv := rfl
@[simp] theorem State.writeX_env (s : State) (j : Nat) (w : Word) :
    (s.writeX j w).env = s.env := rfl
@[simp] theorem State.writeX_xbuf (s : State) (j : Nat) (w : Word) :
    (s.writeX j w).xbuf = s.xbuf.write j w := rfl
@[simp] theorem State.writeX_ybuf (s : State) (j : Nat) (w : Word) :
    (s.writeX j w).ybuf = s.ybuf := rfl
@[simp] theorem State.writeX_dm (s : State) (j : Nat) (w : Word) :
    (s.writeX j w).dm = s.dm := rfl

/-! ### commitParams -/

@[simp] theorem State.commitParams_cfg (s : State) :
    (s.commitParams).cfg = s.cfg := rfl
@[simp] theorem State.commitParams_host (s : State) :
    (s.commitParams).host = s.host := rfl
@[simp] theorem State.commitParams_resp (s : State) :
    (s.commitParams).resp = s.resp := rfl
@[simp] theorem State.commitParams_epoch (s : State) :
    (s.commitParams).epoch = s.epoch := rfl
@[simp] theorem State.commitParams_polls (s : State) :
    (s.commitParams).polls = s.polls := rfl
@[simp] theorem State.commitParams_running (s : State) :
    (s.commitParams).running = s.running := rfl
@[simp] theorem State.commitParams_devok (s : State) :
    (s.commitParams).devok = s.devok := rfl
@[simp] theorem State.commitParams_cmdok (s : State) :
    (s.commitParams).cmdok = s.cmdok := rfl
@[simp] theorem State.commitParams_flags (s : State) :
    (s.commitParams).flags = s.flags := rfl
@[simp] theorem State.commitParams_lasterr (s : State) :
    (s.commitParams).lasterr = s.lasterr := rfl
@[simp] theorem State.commitParams_errinfo (s : State) :
    (s.commitParams).errinfo = s.errinfo := rfl
@[simp] theorem State.commitParams_msel (s : State) :
    (s.commitParams).msel = s.msel := rfl
@[simp] theorem State.commitParams_maddr (s : State) :
    (s.commitParams).maddr = s.maddr := rfl
@[simp] theorem State.commitParams_v (s : State) :
    (s.commitParams).v = s.v := rfl
@[simp] theorem State.commitParams_x (s : State) :
    (s.commitParams).x = s.x := rfl
@[simp] theorem State.commitParams_dlreq (s : State) :
    (s.commitParams).dlreq = s.dlreq := rfl
@[simp] theorem State.commitParams_dlbase (s : State) :
    (s.commitParams).dlbase = s.dlbase := rfl
@[simp] theorem State.commitParams_dllen (s : State) :
    (s.commitParams).dllen = s.dllen := rfl
@[simp] theorem State.commitParams_ps (s : State) :
    (s.commitParams).ps = s.ps := rfl
@[simp] theorem State.commitParams_pa (s : State) :
    (s.commitParams).pa = s.ps := rfl
@[simp] theorem State.commitParams_bqz1 (s : State) :
    (s.commitParams).bqz1 = s.bqz1 := rfl
@[simp] theorem State.commitParams_bqz2 (s : State) :
    (s.commitParams).bqz2 = s.bqz2 := rfl
@[simp] theorem State.commitParams_bqy (s : State) :
    (s.commitParams).bqy = s.bqy := rfl
@[simp] theorem State.commitParams_pv (s : State) :
    (s.commitParams).pv = s.pv := rfl
@[simp] theorem State.commitParams_env (s : State) :
    (s.commitParams).env = s.env := rfl
@[simp] theorem State.commitParams_xbuf (s : State) :
    (s.commitParams).xbuf = s.xbuf := rfl
@[simp] theorem State.commitParams_ybuf (s : State) :
    (s.commitParams).ybuf = s.ybuf := rfl
@[simp] theorem State.commitParams_dm (s : State) :
    (s.commitParams).dm = s.dm := rfl

/-! ### answer -/

@[simp] theorem State.answer_cfg (s : State) (r : Response) :
    (s.answer r).cfg = s.cfg := rfl
@[simp] theorem State.answer_host (s : State) (r : Response) :
    (s.answer r).host = s.host := rfl
@[simp] theorem State.answer_resp (s : State) (r : Response) :
    (s.answer r).resp = some r := rfl
@[simp] theorem State.answer_epoch (s : State) (r : Response) :
    (s.answer r).epoch = s.epoch := rfl
@[simp] theorem State.answer_polls (s : State) (r : Response) :
    (s.answer r).polls = s.polls := rfl
@[simp] theorem State.answer_running (s : State) (r : Response) :
    (s.answer r).running = s.running := rfl
@[simp] theorem State.answer_devok (s : State) (r : Response) :
    (s.answer r).devok = s.devok := rfl
@[simp] theorem State.answer_cmdok (s : State) (r : Response) :
    (s.answer r).cmdok = s.cmdok := rfl
@[simp] theorem State.answer_flags (s : State) (r : Response) :
    (s.answer r).flags = s.flags := rfl
@[simp] theorem State.answer_lasterr (s : State) (r : Response) :
    (s.answer r).lasterr = s.lasterr := rfl
@[simp] theorem State.answer_errinfo (s : State) (r : Response) :
    (s.answer r).errinfo = s.errinfo := rfl
@[simp] theorem State.answer_msel (s : State) (r : Response) :
    (s.answer r).msel = s.msel := rfl
@[simp] theorem State.answer_maddr (s : State) (r : Response) :
    (s.answer r).maddr = s.maddr := rfl
@[simp] theorem State.answer_v (s : State) (r : Response) :
    (s.answer r).v = s.v := rfl
@[simp] theorem State.answer_x (s : State) (r : Response) :
    (s.answer r).x = s.x := rfl
@[simp] theorem State.answer_dlreq (s : State) (r : Response) :
    (s.answer r).dlreq = s.dlreq := rfl
@[simp] theorem State.answer_dlbase (s : State) (r : Response) :
    (s.answer r).dlbase = s.dlbase := rfl
@[simp] theorem State.answer_dllen (s : State) (r : Response) :
    (s.answer r).dllen = s.dllen := rfl
@[simp] theorem State.answer_ps (s : State) (r : Response) :
    (s.answer r).ps = s.ps := rfl
@[simp] theorem State.answer_pa (s : State) (r : Response) :
    (s.answer r).pa = s.pa := rfl
@[simp] theorem State.answer_bqz1 (s : State) (r : Response) :
    (s.answer r).bqz1 = s.bqz1 := rfl
@[simp] theorem State.answer_bqz2 (s : State) (r : Response) :
    (s.answer r).bqz2 = s.bqz2 := rfl
@[simp] theorem State.answer_bqy (s : State) (r : Response) :
    (s.answer r).bqy = s.bqy := rfl
@[simp] theorem State.answer_pv (s : State) (r : Response) :
    (s.answer r).pv = s.pv := rfl
@[simp] theorem State.answer_env (s : State) (r : Response) :
    (s.answer r).env = s.env := rfl
@[simp] theorem State.answer_xbuf (s : State) (r : Response) :
    (s.answer r).xbuf = s.xbuf := rfl
@[simp] theorem State.answer_ybuf (s : State) (r : Response) :
    (s.answer r).ybuf = s.ybuf := rfl
@[simp] theorem State.answer_dm (s : State) (r : Response) :
    (s.answer r).dm = s.dm := rfl

/-! ### bumpMaddr -/

@[simp] theorem State.bumpMaddr_cfg (s : State) :
    (s.bumpMaddr).cfg = s.cfg := rfl
@[simp] theorem State.bumpMaddr_host (s : State) :
    (s.bumpMaddr).host = s.host := rfl
@[simp] theorem State.bumpMaddr_resp (s : State) :
    (s.bumpMaddr).resp = s.resp := rfl
@[simp] theorem State.bumpMaddr_epoch (s : State) :
    (s.bumpMaddr).epoch = s.epoch := rfl
@[simp] theorem State.bumpMaddr_polls (s : State) :
    (s.bumpMaddr).polls = s.polls := rfl
@[simp] theorem State.bumpMaddr_running (s : State) :
    (s.bumpMaddr).running = s.running := rfl
@[simp] theorem State.bumpMaddr_devok (s : State) :
    (s.bumpMaddr).devok = s.devok := rfl
@[simp] theorem State.bumpMaddr_cmdok (s : State) :
    (s.bumpMaddr).cmdok = s.cmdok := rfl
@[simp] theorem State.bumpMaddr_flags (s : State) :
    (s.bumpMaddr).flags = s.flags := rfl
@[simp] theorem State.bumpMaddr_lasterr (s : State) :
    (s.bumpMaddr).lasterr = s.lasterr := rfl
@[simp] theorem State.bumpMaddr_errinfo (s : State) :
    (s.bumpMaddr).errinfo = s.errinfo := rfl
@[simp] theorem State.bumpMaddr_msel (s : State) :
    (s.bumpMaddr).msel = s.msel := rfl
@[simp] theorem State.bumpMaddr_maddr (s : State) :
    (s.bumpMaddr).maddr = s.maddr + 1 := rfl
@[simp] theorem State.bumpMaddr_v (s : State) :
    (s.bumpMaddr).v = s.v := rfl
@[simp] theorem State.bumpMaddr_x (s : State) :
    (s.bumpMaddr).x = s.x := rfl
@[simp] theorem State.bumpMaddr_dlreq (s : State) :
    (s.bumpMaddr).dlreq = s.dlreq := rfl
@[simp] theorem State.bumpMaddr_dlbase (s : State) :
    (s.bumpMaddr).dlbase = s.dlbase := rfl
@[simp] theorem State.bumpMaddr_dllen (s : State) :
    (s.bumpMaddr).dllen = s.dllen := rfl
@[simp] theorem State.bumpMaddr_ps (s : State) :
    (s.bumpMaddr).ps = s.ps := rfl
@[simp] theorem State.bumpMaddr_pa (s : State) :
    (s.bumpMaddr).pa = s.pa := rfl
@[simp] theorem State.bumpMaddr_bqz1 (s : State) :
    (s.bumpMaddr).bqz1 = s.bqz1 := rfl
@[simp] theorem State.bumpMaddr_bqz2 (s : State) :
    (s.bumpMaddr).bqz2 = s.bqz2 := rfl
@[simp] theorem State.bumpMaddr_bqy (s : State) :
    (s.bumpMaddr).bqy = s.bqy := rfl
@[simp] theorem State.bumpMaddr_pv (s : State) :
    (s.bumpMaddr).pv = s.pv := rfl
@[simp] theorem State.bumpMaddr_env (s : State) :
    (s.bumpMaddr).env = s.env := rfl
@[simp] theorem State.bumpMaddr_xbuf (s : State) :
    (s.bumpMaddr).xbuf = s.xbuf := rfl
@[simp] theorem State.bumpMaddr_ybuf (s : State) :
    (s.bumpMaddr).ybuf = s.ybuf := rfl
@[simp] theorem State.bumpMaddr_dm (s : State) :
    (s.bumpMaddr).dm = s.dm := rfl

/-! ### setShadow -/

@[simp] theorem State.setShadow_cfg (s : State) (p : Nat) (w : Word) :
    (s.setShadow p w).cfg = s.cfg := rfl
@[simp] theorem State.setShadow_host (s : State) (p : Nat) (w : Word) :
    (s.setShadow p w).host = s.host := rfl
@[simp] theorem State.setShadow_resp (s : State) (p : Nat) (w : Word) :
    (s.setShadow p w).resp = s.resp := rfl
@[simp] theorem State.setShadow_epoch (s : State) (p : Nat) (w : Word) :
    (s.setShadow p w).epoch = s.epoch := rfl
@[simp] theorem State.setShadow_polls (s : State) (p : Nat) (w : Word) :
    (s.setShadow p w).polls = s.polls := rfl
@[simp] theorem State.setShadow_running (s : State) (p : Nat) (w : Word) :
    (s.setShadow p w).running = s.running := rfl
@[simp] theorem State.setShadow_devok (s : State) (p : Nat) (w : Word) :
    (s.setShadow p w).devok = s.devok := rfl
@[simp] theorem State.setShadow_cmdok (s : State) (p : Nat) (w : Word) :
    (s.setShadow p w).cmdok = s.cmdok := rfl
@[simp] theorem State.setShadow_flags (s : State) (p : Nat) (w : Word) :
    (s.setShadow p w).flags = s.flags := rfl
@[simp] theorem State.setShadow_lasterr (s : State) (p : Nat) (w : Word) :
    (s.setShadow p w).lasterr = s.lasterr := rfl
@[simp] theorem State.setShadow_errinfo (s : State) (p : Nat) (w : Word) :
    (s.setShadow p w).errinfo = s.errinfo := rfl
@[simp] theorem State.setShadow_msel (s : State) (p : Nat) (w : Word) :
    (s.setShadow p w).msel = s.msel := rfl
@[simp] theorem State.setShadow_maddr (s : State) (p : Nat) (w : Word) :
    (s.setShadow p w).maddr = s.maddr := rfl
@[simp] theorem State.setShadow_v (s : State) (p : Nat) (w : Word) :
    (s.setShadow p w).v = s.v := rfl
@[simp] theorem State.setShadow_x (s : State) (p : Nat) (w : Word) :
    (s.setShadow p w).x = s.x := rfl
@[simp] theorem State.setShadow_dlreq (s : State) (p : Nat) (w : Word) :
    (s.setShadow p w).dlreq = s.dlreq := rfl
@[simp] theorem State.setShadow_dlbase (s : State) (p : Nat) (w : Word) :
    (s.setShadow p w).dlbase = s.dlbase := rfl
@[simp] theorem State.setShadow_dllen (s : State) (p : Nat) (w : Word) :
    (s.setShadow p w).dllen = s.dllen := rfl
@[simp] theorem State.setShadow_ps (s : State) (p : Nat) (w : Word) :
    (s.setShadow p w).ps = s.ps.setIfInBounds p w := rfl
@[simp] theorem State.setShadow_pa (s : State) (p : Nat) (w : Word) :
    (s.setShadow p w).pa = s.pa := rfl
@[simp] theorem State.setShadow_bqz1 (s : State) (p : Nat) (w : Word) :
    (s.setShadow p w).bqz1 = s.bqz1 := rfl
@[simp] theorem State.setShadow_bqz2 (s : State) (p : Nat) (w : Word) :
    (s.setShadow p w).bqz2 = s.bqz2 := rfl
@[simp] theorem State.setShadow_bqy (s : State) (p : Nat) (w : Word) :
    (s.setShadow p w).bqy = s.bqy := rfl
@[simp] theorem State.setShadow_pv (s : State) (p : Nat) (w : Word) :
    (s.setShadow p w).pv = s.pv := rfl
@[simp] theorem State.setShadow_env (s : State) (p : Nat) (w : Word) :
    (s.setShadow p w).env = s.env := rfl
@[simp] theorem State.setShadow_xbuf (s : State) (p : Nat) (w : Word) :
    (s.setShadow p w).xbuf = s.xbuf := rfl
@[simp] theorem State.setShadow_ybuf (s : State) (p : Nat) (w : Word) :
    (s.setShadow p w).ybuf = s.ybuf := rfl
@[simp] theorem State.setShadow_dm (s : State) (p : Nat) (w : Word) :
    (s.setShadow p w).dm = s.dm := rfl

/-! ### clearFlags -/

@[simp] theorem State.clearFlags_cfg (s : State) (w : Word) :
    (s.clearFlags w).cfg = s.cfg := rfl
@[simp] theorem State.clearFlags_host (s : State) (w : Word) :
    (s.clearFlags w).host = s.host := rfl
@[simp] theorem State.clearFlags_resp (s : State) (w : Word) :
    (s.clearFlags w).resp = s.resp := rfl
@[simp] theorem State.clearFlags_epoch (s : State) (w : Word) :
    (s.clearFlags w).epoch = s.epoch := rfl
@[simp] theorem State.clearFlags_polls (s : State) (w : Word) :
    (s.clearFlags w).polls = s.polls := rfl
@[simp] theorem State.clearFlags_running (s : State) (w : Word) :
    (s.clearFlags w).running = s.running := rfl
@[simp] theorem State.clearFlags_devok (s : State) (w : Word) :
    (s.clearFlags w).devok = s.devok := rfl
@[simp] theorem State.clearFlags_cmdok (s : State) (w : Word) :
    (s.clearFlags w).cmdok = s.cmdok := rfl
@[simp] theorem State.clearFlags_flags (s : State) (w : Word) :
    (s.clearFlags w).flags = s.flags &&& ~~~(BitVec.ofNat 8 w.toNat) := rfl
@[simp] theorem State.clearFlags_lasterr (s : State) (w : Word) :
    (s.clearFlags w).lasterr = s.lasterr := rfl
@[simp] theorem State.clearFlags_errinfo (s : State) (w : Word) :
    (s.clearFlags w).errinfo = s.errinfo := rfl
@[simp] theorem State.clearFlags_msel (s : State) (w : Word) :
    (s.clearFlags w).msel = s.msel := rfl
@[simp] theorem State.clearFlags_maddr (s : State) (w : Word) :
    (s.clearFlags w).maddr = s.maddr := rfl
@[simp] theorem State.clearFlags_v (s : State) (w : Word) :
    (s.clearFlags w).v = s.v := rfl
@[simp] theorem State.clearFlags_x (s : State) (w : Word) :
    (s.clearFlags w).x = s.x := rfl
@[simp] theorem State.clearFlags_dlreq (s : State) (w : Word) :
    (s.clearFlags w).dlreq = s.dlreq := rfl
@[simp] theorem State.clearFlags_dlbase (s : State) (w : Word) :
    (s.clearFlags w).dlbase = s.dlbase := rfl
@[simp] theorem State.clearFlags_dllen (s : State) (w : Word) :
    (s.clearFlags w).dllen = s.dllen := rfl
@[simp] theorem State.clearFlags_ps (s : State) (w : Word) :
    (s.clearFlags w).ps = s.ps := rfl
@[simp] theorem State.clearFlags_pa (s : State) (w : Word) :
    (s.clearFlags w).pa = s.pa := rfl
@[simp] theorem State.clearFlags_bqz1 (s : State) (w : Word) :
    (s.clearFlags w).bqz1 = s.bqz1 := rfl
@[simp] theorem State.clearFlags_bqz2 (s : State) (w : Word) :
    (s.clearFlags w).bqz2 = s.bqz2 := rfl
@[simp] theorem State.clearFlags_bqy (s : State) (w : Word) :
    (s.clearFlags w).bqy = s.bqy := rfl
@[simp] theorem State.clearFlags_pv (s : State) (w : Word) :
    (s.clearFlags w).pv = s.pv := rfl
@[simp] theorem State.clearFlags_env (s : State) (w : Word) :
    (s.clearFlags w).env = s.env := rfl
@[simp] theorem State.clearFlags_xbuf (s : State) (w : Word) :
    (s.clearFlags w).xbuf = s.xbuf := rfl
@[simp] theorem State.clearFlags_ybuf (s : State) (w : Word) :
    (s.clearFlags w).ybuf = s.ybuf := rfl
@[simp] theorem State.clearFlags_dm (s : State) (w : Word) :
    (s.clearFlags w).dm = s.dm := rfl

end Sys2Proof.Machine
end

