-- ==== Sys2Proof/Laws/Ops.lean ====
section
/-! SUPPORT. For each shared operation, what it does, said once: the loop, the registers, the words of the memories,
FLAGS, and the life cycle of a command. -/

namespace Sys2Proof.Machine

/-! ### The loop -/

@[simp] theorem iter_zero {α : Type} (f : Nat → α → α) (a : α) : iter 0 f a = a := rfl

theorem iter_succ {α : Type} (n : Nat) (f : Nat → α → α) (a : α) : iter (n + 1) f a = f n (iter n f a) := rfl

/-- What each turn of the loop keeps holds after it. -/
theorem iter_inv {α : Type} (P : Nat → α → Prop) (n : Nat) (f : Nat → α → α) (a : α) (h0 : P 0 a)
    (hs : ∀ k b, k < n → P k b → P (k + 1) (f k b)) : P n (iter n f a) := by
  induction n with
  | zero => exact h0
  | succ n ih => exact hs n _ (Nat.lt_succ_self n) (ih fun k b hk hb => hs k b (Nat.lt_succ_of_lt hk) hb)

/-- A field that no turn changes is not changed by the loop. -/
theorem iter_field {α β : Type} (g : α → β) (n : Nat) (f : Nat → α → α) (a : α)
    (h : ∀ k b, g (f k b) = g b) : g (iter n f a) = g a := by
  induction n with
  | zero => rfl
  | succ n ih => rw [iter_succ, h, ih]

/-- An update that commutes with every turn commutes with the loop. -/
theorem iter_comm {α : Type} (u : α → α) (n : Nat) (f : Nat → α → α) (a : α)
    (h : ∀ k b, f k (u b) = u (f k b)) : iter n f (u a) = u (iter n f a) := by
  induction n with
  | zero => rfl
  | succ n ih => rw [iter_succ, iter_succ, ih, h]

theorem iter_congr {α : Type} (n : Nat) (f g : Nat → α → α) (a : α) (h : ∀ k b, k < n → f k b = g k b) :
    iter n f a = iter n g a := by
  induction n with
  | zero => rfl
  | succ n ih => rw [iter_succ, iter_succ, ih fun k b hk => h k b (Nat.lt_succ_of_lt hk), h n _ (Nat.lt_succ_self n)]

@[simp] theorem sumUpTo_zero (f : Nat → Nat) : sumUpTo 0 f = 0 := rfl

theorem sumUpTo_succ (n : Nat) (f : Nat → Nat) : sumUpTo (n + 1) f = sumUpTo n f + f n := rfl

theorem sumUpTo_congr (n : Nat) (f g : Nat → Nat) (h : ∀ k, k < n → f k = g k) : sumUpTo n f = sumUpTo n g := by
  induction n with
  | zero => rfl
  | succ n ih =>
    rw [sumUpTo_succ, sumUpTo_succ, ih fun k hk => h k (Nat.lt_succ_of_lt hk), h n (Nat.lt_succ_self n)]

theorem sumUpTo_mono (f : Nat → Nat) {m n : Nat} (h : m ≤ n) : sumUpTo m f ≤ sumUpTo n f := by
  induction h with
  | refl => exact Nat.le_refl _
  | step _ ih => rw [sumUpTo_succ]; omega

/-! ### Registers -/

theorem getD_setIfInBounds {n : Nat} (v : Vector Word n) (i r : Nat) (w : Word) (hi : i < n) :
    (v.setIfInBounds i w)[r]?.getD 0 = if r = i then w else v[r]?.getD 0 := by
  rw [Vector.getElem?_setIfInBounds]
  by_cases h : r = i
  · subst h; simp [hi]
  · simp [h, Ne.symm h]

theorem State.getV_setV (s : State) (i r : Nat) (w : Word) (hi : i < 16) :
    (s.setV i w).getV r = if r = i then w else s.getV r := getD_setIfInBounds s.v i r w hi

theorem State.getX_setX (s : State) (i r : Nat) (w : Word) (hi : i < 8) :
    (s.setX i w).getX r = if r = i then w else s.getX r := getD_setIfInBounds s.x i r w hi

/-- The four lanes of a group are written and no other tap register (R22). -/
theorem State.getV_setLanes (s : State) (b : Nat) (l : Lanes) (hb : b ≤ 12) :
    (s.setLanes b l).getV b = l.l0 ∧ (s.setLanes b l).getV (b + 1) = l.l1 ∧ (s.setLanes b l).getV (b + 2) = l.l2 ∧
      (s.setLanes b l).getV (b + 3) = l.l3 ∧
      ∀ r, r < b ∨ b + 3 < r → (s.setLanes b l).getV r = s.getV r := by
  unfold State.setLanes
  simp only [State.getV_setV _ _ _ _ (show b < 16 by omega), State.getV_setV _ _ _ _ (show b + 1 < 16 by omega),
    State.getV_setV _ _ _ _ (show b + 2 < 16 by omega), State.getV_setV _ _ _ _ (show b + 3 < 16 by omega)]
  refine ⟨by simp, by simp, by simp, by simp, fun r hr => ?_⟩
  have h : r ≠ b + 3 ∧ r ≠ b + 2 ∧ r ≠ b + 1 ∧ r ≠ b := by omega
  simp [h.1, h.2.1, h.2.2.1, h.2.2.2]

theorem State.z1_setOnePole (s : State) (f g : Nat) (n1 y : Word) (hf : f < 16) :
    (s.setOnePole f n1 y).z1 g = if g = f then n1 else s.z1 g := getD_setIfInBounds s.bqz1 f g n1 hf

theorem State.yLast_setOnePole (s : State) (f g : Nat) (n1 y : Word) (hf : f < 16) :
    (s.setOnePole f n1 y).yLast g = if g = f then y else s.yLast g := getD_setIfInBounds s.bqy f g y hf

theorem State.z1_setTwoPole (s : State) (f g : Nat) (n1 n2 y : Word) (hf : f < 16) :
    (s.setTwoPole f n1 n2 y).z1 g = if g = f then n1 else s.z1 g := getD_setIfInBounds s.bqz1 f g n1 hf

theorem State.z2_setTwoPole (s : State) (f g : Nat) (n1 n2 y : Word) (hf : f < 16) :
    (s.setTwoPole f n1 n2 y).z2 g = if g = f then n2 else s.z2 g := getD_setIfInBounds s.bqz2 f g n2 hf

theorem State.yLast_setTwoPole (s : State) (f g : Nat) (n1 n2 y : Word) (hf : f < 16) :
    (s.setTwoPole f n1 n2 y).yLast g = if g = f then y else s.yLast g := getD_setIfInBounds s.bqy f g y hf

/-! ### FLAGS -/

theorem State.sat_noteSat (s : State) (b : Bool) : (s.noteSat b).sat = (s.sat || b) := by
  cases b <;> simp [State.sat, flagBit]

/-- Noting a saturation leaves the error bits alone (R30). -/
theorem State.errorBits_noteSat (s : State) (b : Bool) (k : Nat) (hk : 1 ≤ k) :
    (s.noteSat b).flags.getLsbD k = s.flags.getLsbD k := by
  cases b
  · simp
  · simp [flagBit, show k ≠ 0 by omega]

/-! ### Words of the memories -/

theorem State.dmAt_writeDm (s : State) (j k : Nat) (w : Word) :
    (s.writeDm j w).dmAt k = if k = j then w else s.dmAt k := Memory.read_write _ _ _ _ _

theorem State.dmAt_ringWrite (s : State) (d : Nat) (o w : Word) (k : Nat) :
    (s.ringWrite d o w).dmAt k = if k = s.ringIndex d o then w else s.dmAt k := Memory.read_write _ _ _ _ _

theorem State.ybufAt_writeY (s : State) (j k : Nat) (w : Word) :
    (s.writeY j w).ybufAt k = if k = j then w else s.ybufAt k := Memory.read_write _ _ _ _ _

theorem State.xbufAt_writeX (s : State) (j k : Nat) (w : Word) :
    (s.writeX j w).xbufAt k = if k = j then w else s.xbufAt k := Memory.read_write _ _ _ _ _

/-- Accumulating changes one word of YBUF, by a saturated sum (R125). -/
theorem State.ybufAt_accumY (s : State) (c i : Nat) (v : Int) (k : Nat) :
    (s.accumY c i v).ybufAt k =
      if k = c * s.cfg.blockMax + i then sat32 ((s.ybufAt k).toInt + v) else s.ybufAt k := by
  have h : (s.accumY c i v).ybufAt k = (s.writeY (s.blockIndex c i)
      (sat32 ((s.ybufAt (s.blockIndex c i)).toInt + v))).ybufAt k := rfl
  rw [h, State.ybufAt_writeY]
  by_cases hk : k = s.blockIndex c i
  · subst hk; rfl
  · rw [if_neg hk, if_neg]; exact hk

/-- Accumulating changes YBUF and FLAGS.SAT, and nothing else. -/
theorem State.accumY_eq (s : State) (c i : Nat) (v : Int) :
    s.accumY c i v = { s with ybuf := (s.accumY c i v).ybuf, flags := (s.accumY c i v).flags } := rfl

theorem State.sat_accumY (s : State) (c i : Nat) (v : Int) :
    (s.accumY c i v).sat = (s.sat || clips ((s.ybufAt (c * s.cfg.blockMax + i)).toInt + v)) :=
  State.sat_noteSat _ _

theorem State.errorBits_accumY (s : State) (c i : Nat) (v : Int) (k : Nat) (hk : 1 ≤ k) :
    (s.accumY c i v).flags.getLsbD k = s.flags.getLsbD k := State.errorBits_noteSat _ _ k hk

/-! ### The life cycle of a command -/

/-- Everything a command can do (R112): be rejected with E_OPERAND or E_NODEV, or complete its effect. -/
theorem runCommand_cases {i : Instr} {ok line : Bool} {f : State → State} {s t : State}
    (h : runCommand i ok line f s = .next t) :
    (ok = false ∧ t = s.raise .operand (encode i)) ∨
    (ok = true ∧ line = true ∧ s.devok = false ∧ t = s.raise .nodev (encode i)) ∨
    (ok = true ∧ (line = true → s.devok = true) ∧ t = (f s).complete) := by
  unfold runCommand at h
  cases ok
  · simp at h; exact .inl ⟨rfl, h.symm⟩
  · cases line
    · simp at h; exact .inr (.inr ⟨rfl, by simp, h.symm⟩)
    · cases hd : s.devok
      · simp [hd] at h; exact .inr (.inl ⟨rfl, rfl, rfl, h.symm⟩)
      · simp [hd] at h; exact .inr (.inr ⟨rfl, by simp, h.symm⟩)

/-- A command whose checks pass completes. -/
theorem runCommand_ok {i : Instr} {ok line : Bool} {f : State → State} {s : State}
    (hok : ok = true) (hd : line = true → s.devok = true) :
    runCommand i ok line f s = .next (f s).complete := by
  unfold runCommand
  subst hok
  cases line
  · simp
  · simp [hd rfl]

theorem runCommand_operand {i : Instr} {ok line : Bool} {f : State → State} {s : State} (hok : ok = false) :
    runCommand i ok line f s = .next (s.raise .operand (encode i)) := by
  unfold runCommand; simp [hok]

theorem runCommand_nodev {i : Instr} {ok line : Bool} {f : State → State} {s : State}
    (hok : ok = true) (hl : line = true) (hd : s.devok = false) :
    runCommand i ok line f s = .next (s.raise .nodev (encode i)) := by
  unfold runCommand; simp [hok, hl, hd]

/-- A command always has a next state. -/
theorem runCommand_next (i : Instr) (ok line : Bool) (f : State → State) (s : State) :
    ∃ t, runCommand i ok line f s = .next t := by
  unfold runCommand
  split
  · exact ⟨_, rfl⟩
  · split <;> exact ⟨_, rfl⟩

end Sys2Proof.Machine
end

