-- ==== Sys2Proof/Laws/PerInstr.lean ====
section
/-! SUPPORT. The family OpcodeKept, one lemma for each constructor of Instr: the word assembled from a well-formed
command fits 32 bits and has the command's opcode byte and its fields A and B in their places (R101, R110). -/

namespace Sys2Proof.Laws.OpcodeKept

/-- A well-formed command's word fits 32 bits, and its opcode byte and fields A and B are the command's. -/
def Statement (i : Instr) : Prop :=
  i.wellFormed = true →
    encodeNat i < 4294967296 ∧ bitField (encodeNat i) 24 8 = i.opcode ∧
    bitField (encodeNat i) 20 4 = i.fields.1 ∧ bitField (encodeNat i) 16 4 = i.fields.2.1 ∧
    bitField (encodeNat i) 0 16 = i.fields.2.2

/-- The parts of a word assembled from parts that fit. -/
theorem parts (op a b low : Nat) (ho : op < 256) (ha : a < 16) (hb : b < 16) (hl : low < 65536) :
    op * 0x1000000 + a * 0x100000 + b * 0x10000 + low < 4294967296 ∧
    bitField (op * 0x1000000 + a * 0x100000 + b * 0x10000 + low) 24 8 = op ∧
    bitField (op * 0x1000000 + a * 0x100000 + b * 0x10000 + low) 20 4 = a ∧
    bitField (op * 0x1000000 + a * 0x100000 + b * 0x10000 + low) 16 4 = b ∧
    bitField (op * 0x1000000 + a * 0x100000 + b * 0x10000 + low) 0 16 = low := by
  refine ⟨by omega, ?_, ?_, ?_, ?_⟩ <;> simp only [bitField] <;> omega

theorem nop : Statement (.nop) := by
  intro _
  exact parts 0x00 0 0 (0) (by omega) (by omega) (by omega) (by omega)

theorem init : Statement (.init) := by
  intro _
  exact parts 0x01 0 0 (0) (by omega) (by omega) (by omega) (by omega)

theorem devupd : Statement (.devupd) := by
  intro _
  exact parts 0x02 0 0 (0) (by omega) (by omega) (by omega) (by omega)

theorem commit : Statement (.commit) := by
  intro _
  exact parts 0x03 0 0 (0) (by omega) (by omega) (by omega) (by omega)

theorem ldx (d ch x : Nat) : Statement (.ldx d ch x) := by
  intro h
  simp only [Instr.wellFormed, fitsA, fitsX, Bool.and_eq_true, decide_eq_true_eq] at h
  exact parts 0x08 d ch (lowR x 0 0) (by omega) (by omega) (by omega) (by simp only [lowR]; omega)

theorem acy (ch x vs : Nat) : Statement (.acy ch x vs) := by
  intro h
  simp only [Instr.wellFormed, fitsA, fitsX, Bool.and_eq_true, decide_eq_true_eq] at h
  exact parts 0x09 ch vs (lowR x 0 0) (by omega) (by omega) (by omega) (by simp only [lowR]; omega)

theorem xadd (d : Nat) (imm : Int) : Statement (.xadd d imm) := by
  intro h
  simp only [Instr.wellFormed, fitsA, fitsImm, Bool.and_eq_true, decide_eq_true_eq] at h
  exact parts 0x0A d 0 ((imm % 65536).toNat) (by omega) (by omega) (by omega) (by omega)

theorem mixo (x vs : Nat) : Statement (.mixo x vs) := by
  intro h
  simp only [Instr.wellFormed, fitsA, fitsX, Bool.and_eq_true, decide_eq_true_eq] at h
  exact parts 0x0B 0 vs (lowR x 0 0) (by omega) (by omega) (by omega) (by simp only [lowR]; omega)

theorem rdwr (line x vs : Nat) : Statement (.rdwr line x vs) := by
  intro h
  simp only [Instr.wellFormed, fitsA, fitsX, fitsN5, Bool.and_eq_true, decide_eq_true_eq] at h
  exact parts 0x10 0 vs (lowR x 0 line) (by omega) (by omega) (by omega) (by simp only [lowR]; omega)

theorem rdrd (d line x : Nat) : Statement (.rdrd d line x) := by
  intro h
  simp only [Instr.wellFormed, fitsA, fitsX, fitsN5, Bool.and_eq_true, decide_eq_true_eq] at h
  exact parts 0x11 d 0 (lowR x 0 line) (by omega) (by omega) (by omega) (by simp only [lowR]; omega)

theorem rdrtw (d line x q vs : Nat) : Statement (.rdrtw d line x q vs) := by
  intro h
  simp only [Instr.wellFormed, fitsA, fitsX, fitsN5, Bool.and_eq_true, decide_eq_true_eq] at h
  exact parts 0x12 d vs (lowR x q line) (by omega) (by omega) (by omega) (by simp only [lowR]; omega)

theorem bq2 (d f vs : Nat) : Statement (.bq2 d f vs) := by
  intro h
  simp only [Instr.wellFormed, fitsA, fitsN5, Bool.and_eq_true, decide_eq_true_eq] at h
  exact parts 0x20 d vs (lowR 0 0 f) (by omega) (by omega) (by omega) (by simp only [lowR]; omega)

theorem bq1 (d f vs : Nat) : Statement (.bq1 d f vs) := by
  intro h
  simp only [Instr.wellFormed, fitsA, fitsN5, Bool.and_eq_true, decide_eq_true_eq] at h
  exact parts 0x21 d vs (lowR 0 0 f) (by omega) (by omega) (by omega) (by simp only [lowR]; omega)

theorem ap (d a x vs : Nat) : Statement (.ap d a x vs) := by
  intro h
  simp only [Instr.wellFormed, fitsA, fitsX, fitsN5, Bool.and_eq_true, decide_eq_true_eq] at h
  exact parts 0x22 d vs (lowR x 0 a) (by omega) (by omega) (by omega) (by simp only [lowR]; omega)

theorem bqblk (f ci co n : Nat) : Statement (.bqblk f ci co n) := by
  intro h
  simp only [Instr.wellFormed, fitsA, fitsN5, fitsCnt, Bool.and_eq_true, decide_eq_true_eq] at h
  exact parts 0x28 ci co (lowK f n) (by omega) (by omega) (by omega) (by simp only [lowK]; omega)

theorem hhmix (d vs : Nat) : Statement (.hhmix d vs) := by
  intro h
  simp only [Instr.wellFormed, fitsA, Bool.and_eq_true, decide_eq_true_eq] at h
  exact parts 0x30 d vs (0) (by omega) (by omega) (by omega) (by omega)

theorem rotmix (d vs : Nat) : Statement (.rotmix d vs) := by
  intro h
  simp only [Instr.wellFormed, fitsA, Bool.and_eq_true, decide_eq_true_eq] at h
  exact parts 0x31 d vs (0) (by omega) (by omega) (by omega) (by omega)

theorem fdnstep (d x vs : Nat) : Statement (.fdnstep d x vs) := by
  intro h
  simp only [Instr.wellFormed, fitsA, fitsX, Bool.and_eq_true, decide_eq_true_eq] at h
  exact parts 0x32 d vs (lowR x 0 0) (by omega) (by omega) (by omega) (by simp only [lowR]; omega)

theorem fftbrev : Statement (.fftbrev) := by
  intro _
  exact parts 0x40 0 0 (0) (by omega) (by omega) (by omega) (by omega)

theorem bfly (xa xb xm inv : Nat) : Statement (.bfly xa xb xm inv) := by
  intro h
  simp only [Instr.wellFormed, fitsA, fitsX, Bool.and_eq_true, decide_eq_true_eq] at h
  exact parts 0x41 xm inv (lowR xa xb 0) (by omega) (by omega) (by omega) (by simp only [lowR]; omega)

theorem fft (inv : Nat) : Statement (.fft inv) := by
  intro h
  simp only [Instr.wellFormed, fitsA, decide_eq_true_eq] at h
  exact parts 0x42 0 inv (0) (by omega) (by omega) (by omega) (by omega)

theorem pvwin : Statement (.pvwin) := by
  intro _
  exact parts 0x43 0 0 (0) (by omega) (by omega) (by omega) (by omega)

theorem pvana : Statement (.pvana) := by
  intro _
  exact parts 0x44 0 0 (0) (by omega) (by omega) (by omega) (by omega)

theorem pvshift : Statement (.pvshift) := by
  intro _
  exact parts 0x45 0 0 (0) (by omega) (by omega) (by omega) (by omega)

theorem pvsyn : Statement (.pvsyn) := by
  intro _
  exact parts 0x46 0 0 (0) (by omega) (by omega) (by omega) (by omega)

theorem pvola : Statement (.pvola) := by
  intro _
  exact parts 0x47 0 0 (0) (by omega) (by omega) (by omega) (by omega)

theorem pshblk (ci co n : Nat) : Statement (.pshblk ci co n) := by
  intro h
  simp only [Instr.wellFormed, fitsA, fitsCnt, Bool.and_eq_true, decide_eq_true_eq] at h
  exact parts 0x48 ci co (lowK 0 n) (by omega) (by omega) (by omega) (by simp only [lowK]; omega)

theorem envlink (d x : Nat) : Statement (.envlink d x) := by
  intro h
  simp only [Instr.wellFormed, fitsA, fitsX, Bool.and_eq_true, decide_eq_true_eq] at h
  exact parts 0x50 d 0 (lowR x 0 0) (by omega) (by omega) (by omega) (by simp only [lowR]; omega)

theorem envrms (d vs : Nat) : Statement (.envrms d vs) := by
  intro h
  simp only [Instr.wellFormed, fitsA, Bool.and_eq_true, decide_eq_true_eq] at h
  exact parts 0x51 d vs (0) (by omega) (by omega) (by omega) (by omega)

theorem envfol (d vs : Nat) : Statement (.envfol d vs) := by
  intro h
  simp only [Instr.wellFormed, fitsA, Bool.and_eq_true, decide_eq_true_eq] at h
  exact parts 0x52 d vs (0) (by omega) (by omega) (by omega) (by omega)

theorem envgain (d vs : Nat) : Statement (.envgain d vs) := by
  intro h
  simp only [Instr.wellFormed, fitsA, Bool.and_eq_true, decide_eq_true_eq] at h
  exact parts 0x53 d vs (0) (by omega) (by omega) (by omega) (by omega)

theorem cmpblk (n : Nat) : Statement (.cmpblk n) := by
  intro h
  simp only [Instr.wellFormed, fitsCnt, decide_eq_true_eq] at h
  exact parts 0x58 0 0 (lowK 0 n) (by omega) (by omega) (by omega) (by simp only [lowK]; omega)

end Sys2Proof.Laws.OpcodeKept
end

