-- ==== Sys2Proof/Machine/HostPrograms.lean ====
section
/-! DEFINITION. The host's pseudo-instructions (30_encoding.md R111): the bus transactions a line of a program listing
stands for.  The unit needs none of them; they say how a listing of the spec becomes a list of host inputs. -/

namespace Sys2Proof.Machine

/-- `WR addr, value`: a bus write that starts no command. -/
def hostWR (addr : Nat) (value : Word) : List HostOp := [.write (BitVec.ofNat 16 addr) value 0]

/-- `RD addr`: a bus read. -/
def hostRD (addr : Nat) : List HostOp := [.read (BitVec.ofNat 16 addr)]

/-- `SETV Vn, value`. -/
def hostSETV (n : Fin 16) (value : Word) : List HostOp := hostWR (0x0010 + n.val) value

/-- `SETX Xn, value`. -/
def hostSETX (n : Fin 8) (value : Word) : List HostOp := hostWR (0x0020 + n.val) value

/-- `SETREQ #d, value`. -/
def hostSETREQ (d : Fin 32) (value : Word) : List HostOp := hostWR (0x0040 + d.val) value

/-- `SETP NAME, value`, with `p` the index of NAME in 10_state.md R37 (Machine/Params.lean). -/
def hostSETP (p : Nat) (value : Word) : List HostOp := hostWR (0x0100 + p) value

/-- `WAIT`: `RD 0x0001` until bit 0 reads 0, where `busy` reads still find it 1 (R82 leaves their number open). -/
def hostWAIT (busy : Nat) : List HostOp := List.replicate (busy + 1) (.read 0x0001)

/-- A command mnemonic in a listing: `WR 0x0005, <command word>` followed by `WAIT`.  `lag` is how many transactions
find the unit busy; it is 0 for a command that its checks reject. -/
def hostCommand (i : Instr) (lag : Nat) : List HostOp := .write 0x0005 (encode i) lag :: hostWAIT lag

/-- `XINC Xn` is `XADD Xn, #1`. -/
def hostXINC (n : Fin 8) (lag : Nat) : List HostOp := hostCommand (.xadd n 1) lag

/-- `PUTX #c, #i, value`: one word of the input block through the window. -/
def hostPUTX (cfg : Config) (c i : Nat) (value : Word) : List HostOp :=
  hostWR 0x0006 1 ++ hostWR 0x0007 (BitVec.ofNat 32 (c * cfg.blockMax + i)) ++ hostWR 0x0008 value

/-- `PUTY #c, #i, value`: one word of the output block. -/
def hostPUTY (cfg : Config) (c i : Nat) (value : Word) : List HostOp :=
  hostWR 0x0006 2 ++ hostWR 0x0007 (BitVec.ofNat 32 (c * cfg.blockMax + i)) ++ hostWR 0x0008 value

/-- `GETY #c, #i`. -/
def hostGETY (cfg : Config) (c i : Nat) : List HostOp :=
  hostWR 0x0006 2 ++ hostWR 0x0007 (BitVec.ofNat 32 (c * cfg.blockMax + i)) ++ hostRD 0x0008

/-- The device update of 47_host_coefficients.md R227: the requests of the lines the host uses, then DEVUPD. -/
def hostDeviceUpdate (requests : List (Fin 32 × Word)) (lag : Nat) : List HostOp :=
  requests.flatMap (fun r => hostSETREQ r.1 r.2) ++ hostCommand .devupd lag

/-- The five coefficient words of bank `f`, then COMMIT (R223). -/
def hostLoadBank (f : Fin 16) (b0 b1 b2 a1 a2 : Word) (lag : Nat) : List HostOp :=
  hostSETP (pBqB0 f.val) b0 ++ hostSETP (pBqB1 f.val) b1 ++ hostSETP (pBqB2 f.val) b2 ++ hostSETP (pBqA1 f.val) a1 ++
    hostSETP (pBqA2 f.val) a2 ++ hostCommand .commit lag

end Sys2Proof.Machine
end

