-- ==== Sys2Proof/Tests/Slice0.lean ====
section
/-! SUPPORT. The model's own tests: the checks of WellFormed, one written-out word for every command, one or two steps
of every command with results taken from spec/95_test_vectors.md or worked from the cited rule, and for every statement
with hypotheses a state and operands that meet them. -/

namespace Sys2Proof.Machine

/-! ### Helpers -/

/-- `PA[p]` set by hand. -/
def State.withPar (s : State) (p : Nat) (w : Word) : State := { s with pa := s.pa.setIfInBounds p w }

/-- Line `d` requested with `n` samples. -/
def State.request (s : State) (d : Nat) (n : Word) : State := { s with dlreq := s.dlreq.setIfInBounds d n }

/-- Four tap registers set. -/
def State.taps (s : State) (a b c d : Word) : State := (((s.setV 0 a).setV 1 b).setV 2 c).setV 3 d

end Sys2Proof.Machine

namespace Sys2Proof.Tests

set_option Elab.async false

open Sys2Proof Sys2Proof.Machine Sys2Proof.Safety

/-- The instance SMALL of spec/95_test_vectors.md section 2. -/
def small : Config := ⟨64, 16, 4096, 1, 8, 4, 4, .little⟩

/-- `bankReset small`, in a form the kernel evaluates faster. -/
def smallBank : Vector Word 256 := ⟨((List.range 256).map (paramReset small)).toArray, by simp⟩

/-- SMALL after reset. -/
def fresh : State := { State.resetOf small 0 with ps := smallBank, pa := smallBank }

theorem test_fresh_is_reset : fresh = State.resetOf small 0 := by
  have h : smallBank = bankReset small := by
    apply Vector.ext
    intro i hi
    simp [smallBank, bankReset]
  unfold fresh
  rw [h]
  rfl

/-- A view of the state after an outcome. -/
def seen {α : Type} (o : Host.Outcome State Fault Refusal) (f : State → α) : Option α :=
  match o with
  | .next t => some (f t)
  | .fault _ => none
  | .refused _ => none

/-- The error record and STATUS.CMDOK. -/
def record (s : State) : Bool × BitVec 8 × Option Err × Word := (s.cmdok, s.flags, s.lasterr, s.errinfo)

/-- A vocoder memory of SMALL holding the words of a list from index 0. -/
def filled {w : Nat} (ws : List (BitVec w)) : Memory w :=
  (ws.zipIdx).foldl (fun m p => m.write p.2 p.1) (.zeros ws.length)

/-- The first words of a vocoder memory. -/
def firstWords {w : Nat} (m : Memory w) (n : Nat) : List (BitVec w) := (List.range n).map fun k => m.read 0 k

/-- SMALL, idle, with one host input waiting. -/
def waiting (op : HostOp) : State := { fresh with host := [op] }

/-! ### WellFormed: an ill-formed term for each check, in each command that has the field -/

theorem test_field_A_and_B_have_four_bits :
    (List.all [Instr.ldx 16 0 0, .ldx 0 16 0, .acy 16 0 0, .acy 0 0 16, .xadd 16 0, .mixo 0 16, .rdwr 0 0 16,
      .rdrd 16 0 0, .rdrtw 16 0 0 0 0, .rdrtw 0 0 0 0 16, .bq2 16 0 0, .bq2 0 0 16, .bq1 16 0 0, .bq1 0 0 16,
      .ap 16 0 0 0, .ap 0 0 0 16, .bqblk 0 16 0 0, .bqblk 0 0 16 0, .hhmix 16 0, .hhmix 0 16, .rotmix 16 0,
      .rotmix 0 16] fun i => !i.wellFormed) = true ∧
    (List.all [Instr.fdnstep 16 0 0, .fdnstep 0 0 16, .bfly 0 0 16 0, .bfly 0 0 0 16, .fft 16, .pshblk 16 0 0,
      .pshblk 0 16 0, .envlink 16 0, .envrms 16 0, .envrms 0 16, .envfol 16 0, .envfol 0 16, .envgain 16 0,
      .envgain 0 16] fun i => !i.wellFormed) = true := by decide

theorem test_field_X_has_three_bits :
    (List.all [Instr.ldx 0 0 8, .acy 0 8 0, .mixo 8 0, .rdwr 0 8 0, .rdrd 0 0 8, .rdrtw 0 0 8 0 0, .rdrtw 0 0 0 8 0,
      .ap 0 0 8 0, .fdnstep 0 8 0, .bfly 8 0 0 0, .bfly 0 8 0 0, .envlink 0 8] fun i => !i.wellFormed) = true := by
  decide

theorem test_field_N5_has_five_bits :
    (List.all [Instr.rdwr 32 0 0, .rdrd 0 32 0, .rdrtw 0 32 0 0 0, .bq2 0 32 0, .bq1 0 32 0, .ap 0 32 0 0,
      .bqblk 32 0 0 0] fun i => !i.wellFormed) = true := by decide

theorem test_field_CNT_has_eleven_bits :
    (List.all [Instr.bqblk 0 0 0 2048, .pshblk 0 0 2048, .cmpblk 2048] fun i => !i.wellFormed) = true := by decide

theorem test_imm16_is_a_signed_halfword :
    (List.all [Instr.xadd 0 32768, .xadd 0 (-32769)] fun i => !i.wellFormed) = true := by decide

/-! ### Decode: a word of every command, written out field by field from 30_encoding.md R101 and R107 -/

theorem test_decode_system :
    decode 0b00000000_0000_0000_0000000000000000 = .ok .nop ∧
    decode 0b00000001_0000_0000_0000000000000000 = .ok .init ∧
    decode 0b00000010_0000_0000_0000000000000000 = .ok .devupd ∧
    decode 0b00000011_0000_0000_0000000000000000 = .ok .commit ∧
    decode 0b00001000_0011_0101_110_000_00000_00000 = .ok (.ldx 3 5 6) ∧
    decode 0b00001001_1100_0111_101_000_00000_00000 = .ok (.acy 12 5 7) ∧
    decode 0b00001010_0010_0000_1111111111111100 = .ok (.xadd 2 (-4)) ∧
    decode 0b00001011_0000_0101_001_000_00000_00000 = .ok (.mixo 1 5) :=
  ⟨rfl, rfl, rfl, rfl, rfl, rfl, rfl, rfl⟩

theorem test_decode_ring_and_filters :
    decode 0b00010000_0000_0010_110_000_10011_00000 = .ok (.rdwr 19 6 2) ∧
    decode 0b00010001_0011_0000_100_000_00001_00000 = .ok (.rdrd 3 1 4) ∧
    decode 0b00010010_0100_0010_000_001_00001_00000 = .ok (.rdrtw 4 1 0 1 2) ∧
    decode 0b00100000_0111_1001_000_000_00101_00000 = .ok (.bq2 7 5 9) ∧
    decode 0b00100001_0001_1000_000_000_11110_00000 = .ok (.bq1 1 30 8) ∧
    decode 0b00100010_0101_0100_010_000_00011_00000 = .ok (.ap 5 3 2 4) ∧
    decode 0b00101000_0000_0001_00011_00000000100 = .ok (.bqblk 3 0 1 4) :=
  ⟨rfl, rfl, rfl, rfl, rfl, rfl, rfl⟩

theorem test_decode_matrices_and_vocoder :
    decode 0b00110000_0100_1001_0000000000000000 = .ok (.hhmix 4 9) ∧
    decode 0b00110001_0010_1011_0000000000000000 = .ok (.rotmix 2 11) ∧
    decode 0b00110010_0100_0001_011_000_00000_00000 = .ok (.fdnstep 4 3 1) ∧
    decode 0b01000000_0000_0000_0000000000000000 = .ok .fftbrev ∧
    decode 0b01000001_0010_0001_000_011_00000_00000 = .ok (.bfly 0 3 2 1) ∧
    decode 0b01000010_0000_0001_0000000000000000 = .ok (.fft 1) ∧
    decode 0b01000011_0000_0000_0000000000000000 = .ok .pvwin ∧
    decode 0b01000100_0000_0000_0000000000000000 = .ok .pvana ∧
    decode 0b01000101_0000_0000_0000000000000000 = .ok .pvshift ∧
    decode 0b01000110_0000_0000_0000000000000000 = .ok .pvsyn ∧
    decode 0b01000111_0000_0000_0000000000000000 = .ok .pvola ∧
    decode 0b01001000_0001_0010_00000_00000001010 = .ok (.pshblk 1 2 10) :=
  ⟨rfl, rfl, rfl, rfl, rfl, rfl, rfl, rfl, rfl, rfl, rfl, rfl⟩

theorem test_decode_compressor :
    decode 0b01010000_0110_0000_001_000_00000_00000 = .ok (.envlink 6 1) ∧
    decode 0b01010001_0001_1101_0000000000000000 = .ok (.envrms 1 13) ∧
    decode 0b01010010_0010_0001_0000000000000000 = .ok (.envfol 2 1) ∧
    decode 0b01010011_0011_0010_0000000000000000 = .ok (.envgain 3 2) ∧
    decode 0b01011000_0000_0000_00000_10000000000 = .ok (.cmpblk 1024) :=
  ⟨rfl, rfl, rfl, rfl, rfl⟩

/-- T-CMD-2, 5 to 9, 12, 25, 27, 29, 41 and T-DEC-11: words that are no command. -/
theorem test_decode_refuses :
    decode 0x00000001 = .error (.reservedField "NOP") ∧ decode 0x01100000 = .error (.reservedField "INIT") ∧
    decode 0x08302400 = .error (.reservedField "LDX") ∧ decode 0x0A010001 = .error (.reservedField "XADD") ∧
    decode 0x20100001 = .error (.reservedField "BQ2") ∧ decode 0x58010000 = .error (.reservedField "CMPBLK") ∧
    decode 0x48000800 = .error (.reservedField "PSHBLK") ∧ decode 0x42100000 = .error (.reservedField "FFT") ∧
    decode 0x41000020 = .error (.reservedField "BFLY") ∧ decode 0x04000000 = .error (.unassignedOpcode 0x04) ∧
    decode 0xFF000000 = .error (.unassignedOpcode 0xFF) ∧ decode 0x13000000 = .error (.unassignedOpcode 0x13) :=
  ⟨rfl, rfl, rfl, rfl, rfl, rfl, rfl, rfl, rfl, rfl, rfl, rfl⟩

/-- The interface's decoder and the placing of a word. -/
theorem test_table_word :
    decodeTableWord 32 0x12420420 = some (.rdrtw 4 1 0 1 2) ∧ decodeTableWord 33 0 = none ∧
    seen (step (fresh.withFetchWord 32 0x0A700001)) (fun t => (t.getX 7, t.resp)) = some (1, some (.writeDone false)) :=
  ⟨rfl, rfl, by decide +kernel⟩

/-! ### Arithmetic (T-ARI-2 to T-ARI-11) -/

theorem test_rounding_and_saturation :
    rnd 24 (-(3 * 2 ^ 23)) = -1 ∧ rnd 24 (-(2 ^ 23)) = 0 ∧ rnd 24 (-(2 ^ 23) - 1) = -1 ∧ rnd 1 (-5) = -2 ∧
    sat32 (2 ^ 31) = 0x7FFFFFFF ∧ clips (2 ^ 31) = true ∧ sat32 (-(2 ^ 31) - 1) = 0x80000000 ∧
    clips (2 ^ 31 - 1) = false ∧ unwrap (-(2 ^ 31)) = 2 ^ 31 ∧ unwrap (3 * 2 ^ 31) = 2 ^ 31 ∧
    unwrap (0xA6EC5401 - 0xC0000000) = -0x1913ABFF := by decide +kernel

theorem test_next_power_of_two :
    [1, 2, 3, 4, 5, 2 ^ 19 + 1, 2 ^ 31].map nextPow2 = [1, 2, 4, 4, 8, 2 ^ 20, 2 ^ 31] := by decide +kernel

/-! ### System and block interface (spec/95 section 6 and T-DEV) -/

/-- R120: NOP sets CMDOK and nothing else is asked of it. -/
theorem test_nop : seen (exec .nop { fresh with cmdok := false, flags := 8 }) record = some (true, 8, none, 0) := by
  decide +kernel

/-- T-SYS-12. -/
theorem test_init :
    seen (exec .init { (fresh.request 0 3).deviceUpdate.setV 3 5 with flags := 0x20 }) (fun t =>
      (t.getV 3, t.devok, t.dlReq 0, t.dlLen 0, t.flags)) = some (0, false, 0, 0, 0x20) := by decide +kernel

/-- T-RING-1: lengths 4, 8, 1 and bases 0, 4, 12, 41. -/
theorem test_devupd :
    seen (exec .devupd ((fresh.request 0 3).request 1 4)) (fun t =>
      ((t.dlLen 0, t.dlLen 1, t.dlLen 2), (t.dlBase 1, t.dlBase 2, t.dlBase 31), t.devok, t.dmAt 41)) =
    some ((4, 8, 1), (4, 12, 41), true, 0) := by decide +kernel

/-- T-DEV-6: a request above 2^31 is E_ALLOC. -/
theorem test_devupd_alloc :
    seen (exec .devupd (fresh.request 0 0x80000000)) record = some (false, 0x20, some .alloc, 0x02000000) := by
  decide +kernel

/-- T-SYS-13. -/
theorem test_commit :
    seen (exec .commit { fresh with ps := fresh.ps.setIfInBounds 0 0x00800000 }) (fun t => t.par 0) =
      some 0x00800000 := by decide +kernel

/-- T-SYS-1. -/
theorem test_ldx :
    seen (exec (.ldx 15 15 0) ((fresh.setX 0 63).writeX 1023 0x1234)) (fun t => t.getV 15) = some 0x1234 := by
  decide +kernel

/-- T-SYS-2. -/
theorem test_ldx_index :
    seen (exec (.ldx 15 15 0) (fresh.setX 0 64)) record = some (false, 0x10, some .operand, 0x08FF0000) := by
  decide +kernel

/-- T-SYS-7. -/
theorem test_acy :
    seen (exec (.acy 3 0 1) ((fresh.writeY 192 0x80000010).setV 1 0xFFFFFFE0)) (fun t => (t.ybufAt 192, t.flags)) =
      some (0x80000000, 1) := by decide +kernel

/-- T-SYS-3, T-SYS-4. -/
theorem test_xadd :
    seen (exec (.xadd 7 1) (fresh.setX 7 0xFFFFFFFF)) (fun t => (t.getX 7, t.flags)) = some (0, 0) ∧
    seen (exec (.xadd 7 (-32768)) fresh) (fun t => t.getX 7) = some 0xFFFF8000 := by
  exact ⟨by decide +kernel, by decide +kernel⟩

/-- T-SYS-9: channels 0 to 2 of M_NCH = 3; the gain 16 is not above the threshold 16. -/
theorem test_mixo :
    seen (exec (.mixo 1 5)
      (((((((((fresh.withPar 0xD8 3).withPar 0xE0 0xFF000000).withPar 0xE1 0x7FFFFFFF).withPar 0xE2 0xFFFFFFF0).withPar
        0xD9 0x10).setX 1 2).writeY 2 5).writeY 66 5).writeY 130 5 |>.setV 5 0x01000001))
      (fun t => (t.ybufAt 2, t.ybufAt 66, t.ybufAt 130, t.flags)) =
    some (0xFF000004, 0x7FFFFFFF, 5, 1) := by decide +kernel

/-! ### Ring delay (spec/95 section 7) -/

/-- Line 0 of four words, line 1 of eight, the rest of one (T-RING-1). -/
def ringed : State := ((fresh.request 0 3).request 1 4).deviceUpdate

/-- T-RING-6. -/
theorem test_rdwr :
    seen (exec (.rdwr 1 0 2) ((ringed.setX 0 11).setV 2 0x00123456)) (fun t => t.dmAt 7) = some 0x00123456 := by
  decide +kernel

/-- T-CMD-15. -/
theorem test_rdwr_nodev : seen (exec (.rdwr 1 0 2) fresh) record = some (false, 0x40, some .nodev, 0x10020020) := by
  decide +kernel

/-- T-RING-6. -/
theorem test_rdrd :
    seen (exec (.rdrd 3 1 0) ((ringed.setX 0 19).writeDm 7 0x00123456)) (fun t => t.getV 3) = some 0x00123456 := by
  decide +kernel

/-- T-RING-6, and T-RING-4 with the destination equal to the source. -/
theorem test_rdrtw :
    seen (exec (.rdrtw 4 1 0 1 2) ((((ringed.setX 0 10).setX 1 3).writeDm 11 0xAAA).setV 2 0xBBB))
      (fun t => (t.getV 4, t.dmAt 6)) = some (0xAAA, 0xBBB) ∧
    seen (exec (.rdrtw 2 0 0 1 2) ((((ringed.setX 0 6).setX 1 1).writeDm 1 0x800).setV 2 0xCCCC))
      (fun t => (t.getV 2, t.dmAt 2)) = some (0x800, 0xCCCC) := by
  exact ⟨by decide +kernel, by decide +kernel⟩

/-! ### Filter taps (spec/95 section 8) -/

/-- T-FLT-5, step 1: the history word clips. -/
theorem test_bq2 :
    seen (exec (.bq2 1 2 0) { fresh.withPar 0x13 0xFE000000 with bqz1 := fresh.bqz1.setIfInBounds 2 0x40000000 })
      (fun t => (t.getV 1, t.z1 2, t.z2 2, t.yLast 2, t.flags)) =
    some (0x40000000, 0x7FFFFFFF, 0, 0x40000000, 1) := by decide +kernel

/-- T-FLT-3: half a unit in the last place rounds toward +infinity. -/
theorem test_bq2_rounding :
    [1, 0xFFFFFFFF, 3, 0xFFFFFFFD].map (fun x : Word =>
      seen (exec (.bq2 1 0 0) ((fresh.withPar 0 0x00800000).setV 0 x)) fun t => t.getV 1) =
    [some 1, some 0, some 2, some 0xFFFFFFFF] := by decide +kernel

/-- T-FLT-6 and T-FLT-7: the first one-pole step; BQZ2 stays. -/
theorem test_bq1 :
    seen (exec (.bq1 1 1 0) { ((fresh.withPar 8 0x00800000).withPar 11 0xFF800000).setV 0 0x01000000 with
        bqz1 := fresh.bqz1.setIfInBounds 1 0x00400000, bqz2 := fresh.bqz2.setIfInBounds 1 0x1234 })
      (fun t => (t.getV 1, t.z1 1, t.z2 1, t.flags)) = some (0x00C00000, 0x00600000, 0x1234, 0) := by decide +kernel

/-- T-FLT-9, step 1: a line of two words, delay 1, gain one half; the feed word clips. -/
theorem test_ap :
    seen (exec (.ap 5 0 0 4) (((((((fresh.request 0 1).deviceUpdate.withPar 0x81 1).withPar 0x82 0x00800000).writeDm 0
        0x60000000).setX 0 1).setV 4 0x7FFFFFFF)))
      (fun t => (t.getV 5, t.dmAt 1, t.flags)) = some (0x20000001, 0x7FFFFFFF, 1) := by decide +kernel

/-- T-CMD-13: a bad bank is reported before the missing device. -/
theorem test_ap_order : seen (exec (.ap 5 8 0 0) fresh) record = some (false, 0x10, some .operand, 0x22500100) := by
  decide +kernel

/-- R154 with bank 3 at its reset coefficients (b0 = ONE): two samples are added into channel 1. -/
theorem test_bqblk :
    seen (exec (.bqblk 3 0 1 2)
      ((((fresh.writeX 0 0x00100000).writeX 1 0x00200000).writeY 64 1).writeY 65 0x7FFFFFFF))
      (fun t => (t.ybufAt 64, t.ybufAt 65, t.yLast 3, t.flags)) = some (0x00100001, 0x7FFFFFFF, 0x00200000, 1) := by
  decide +kernel

/-! ### Matrices and the reverb loop (spec/95 section 9) -/

/-- T-FDN-1: lane 3 clips; and overlapping groups read all sources first. -/
theorem test_hhmix :
    seen (exec (.hhmix 4 0) (fresh.taps 0x7FFFFFFF 0x7FFFFFFF 0x7FFFFFFF 0x80000000)) (fun t =>
      (t.getV 4, t.getV 5, t.getV 6, t.getV 7, t.flags)) = some (0, 0, 0, 0x7FFFFFFF, 1) ∧
    seen (exec (.hhmix 2 0) (fresh.taps 0x01000000 0x02000000 0x03000000 0x04000000)) (fun t =>
      (t.getV 0, t.getV 1, t.getV 2, t.getV 3, t.getV 4, t.getV 5)) =
      some (0x01000000, 0x02000000, 0x04000000, 0x03000000, 0x02000000, 0x01000000) := by
  exact ⟨by decide +kernel, by decide +kernel⟩

/-- T-FDN-1, the example of R161. -/
theorem test_rotmix :
    seen (exec (.rotmix 4 0) (((fresh.withPar 0xA0 0x00800000).withPar 0xA1 0x00800000).taps 0x01000000 0x02000000
      0x03000000 0x04000000)) (fun t => (t.getV 4, t.getV 5, t.getV 6, t.getV 7, t.flags)) =
    some (0x02000000, 0x04000000, 0x03000000, 0xFF000000, 0) := by decide +kernel

/-- The reverb of T-FDN-2: lines 4 to 7 with dampers 4 to 7, all-passes 0 to 3 on lines 8 to 11. -/
def reverb : State :=
  let requests : List (Nat × Word) :=
    [(4, 5), (5, 7), (6, 11), (7, 13), (8, 2), (9, 3), (10, 2), (11, 3)]
  let params : List (Nat × Word) :=
    [(0xA4, 4), (0xA5, 5), (0xA6, 6), (0xA7, 7), (0xA8, 5), (0xA9, 7), (0xAA, 11), (0xAB, 13),
     (0xAC, 4), (0xAD, 5), (0xAE, 6), (0xAF, 7), (0xB0, 0), (0xB1, 1), (0xB2, 2), (0xB3, 3)] ++
    [(0x20, 0x00800000), (0x28, 0x00800000), (0x30, 0x00800000), (0x38, 0x00800000),
     (0x23, 0xFFC00000), (0x2B, 0xFFC00000), (0x33, 0xFFC00000), (0x3B, 0xFFC00000),
     (0xA0, 0x00800000), (0xA1, 0x00800000), (0xA2, 0x00800000)] ++
    [(0x80, 8), (0x84, 9), (0x88, 10), (0x8C, 11), (0x81, 2), (0x85, 3), (0x89, 2), (0x8D, 3),
     (0x82, 0x00800000), (0x86, 0x00800000), (0x8A, 0x00800000), (0x8E, 0x00800000)]
  params.foldl (fun s p => s.withPar p.1 p.2) (requests.foldl (fun s r => s.request r.1 r.2) fresh).deviceUpdate

/-- T-FDN-2, step 0, with the words its text works out by hand. -/
theorem test_fdnstep :
    seen (exec (.fdnstep 4 0 0) (reverb.taps 0x01000000 0 0 0)) (fun t =>
      ((t.getV 4, t.getV 5, t.z1 4, t.yLast 4), (t.dmAt 52, t.dmAt 4, t.dmAt 12, t.dmAt 20), t.flags)) =
    some ((0xFFE00000, 0, 0x00100000, 0x00400000), (0x00300000, 0xFFF00000, 0x00100000, 0xFFF00000), 0) := by
  decide +kernel

/-- T-CMD-19: the four-lane base is checked before the device. -/
theorem test_fdnstep_order :
    seen (exec (.fdnstep 13 0 0) fresh) record = some (false, 0x10, some .operand, 0x32D00000) := by decide +kernel

/-! ### Phase vocoder (spec/95 section 10), at the anchors of the configuration functions -/

/-- T-PV-1. -/
theorem test_fftbrev :
    seen (exec .fftbrev { fresh with pv := { fresh.pv with
        fr := filled [0, 0x100, 0x200, 0x300, 0x400, 0x500, 0x600, 0x700] } }) (fun t => firstWords t.pv.fr 8) =
    some [0, 0x400, 0x200, 0x600, 0x100, 0x500, 0x300, 0x700] := by decide +kernel

/-- Two FFT entries and the offsets of T-PV-3. -/
def butterflied : State :=
  { ((fresh.setX 1 1).setX 2 2) with
    pv := { fresh.pv with fr := filled [0x01000000, 0x00400000, 0, 0, 0, 0, 0, 0]
                          fi := filled [0, 0x00200000, 0, 0, 0, 0, 0, 0] } }

/-- T-PV-3, forward and inverse with w = -i and w = +i. -/
theorem test_bfly :
    seen (exec (.bfly 0 1 2 0) butterflied) (fun t => (firstWords t.pv.fr 2, firstWords t.pv.fi 2)) =
      some ([0x00900000, 0x00700000], [0xFFE00000, 0x00200000]) ∧
    seen (exec (.bfly 0 1 2 1) butterflied) (fun t => (firstWords t.pv.fr 2, firstWords t.pv.fi 2)) =
      some ([0x00E00000, 0x01200000], [0x00400000, 0xFFC00000]) := by
  exact ⟨by decide +kernel, by decide +kernel⟩

/-- T-PV-5: the twiddle index is outside the table. -/
theorem test_bfly_operand :
    seen (exec (.bfly 0 1 2 0) (fresh.setX 2 4)) record = some (false, 0x10, some .operand, 0x41200400) := by
  decide +kernel

/-- R173 by hand: an impulse ONE after two of the three halving stages. -/
theorem test_fft_stages :
    firstWords (iter 2 (fftStage false) (bitReversal { fresh with pv := { fresh.pv with
        fr := filled [0x01000000, 0, 0, 0, 0, 0, 0, 0] } })).pv.fr 8 =
    [0x00400000, 0x00400000, 0x00400000, 0x00400000, 0, 0, 0, 0] := by decide +kernel

/-- T-CMD-28. -/
theorem test_fft_operand : seen (exec (.fft 2) fresh) record = some (false, 0x10, some .operand, 0x42020000) := by
  decide +kernel

/-- T-PV-7: FI is cleared, and HANN[4] = ONE, HANN[2] = ONE/2. -/
theorem test_pvwin :
    seen (exec .pvwin { fresh with pv := { fresh.pv with fi := filled [5, 5, 5, 5, 5, 5, 5, 5] } })
      (fun t => firstWords t.pv.fi 8) = some [0, 0, 0, 0, 0, 0, 0, 0] ∧
    (windowBin 4 { fresh with pv := { fresh.pv with inf := fresh.pv.inf.write 4 0x01000000 } }).pv.fr.read 0 4 =
      0x01000000 ∧
    (windowBin 2 { fresh with pv := { fresh.pv with inf := fresh.pv.inf.write 2 0x01000000 } }).pv.fr.read 0 2 =
      0x00800000 := by
  exact ⟨by decide +kernel, by decide +kernel, by decide +kernel⟩

/-- T-PV-8: half a turn and the empty bin. -/
theorem test_pvana :
    seen (exec .pvana { fresh with pv := { fresh.pv with
        fr := filled [0x01000000, 0xFF000000, 0, 0, 0, 0, 0, 0], fi := filled [0, 0, 0x01000000, 0, 0, 0, 0, 0]
        lastph := filled [0x80000000, 0, 0, 0x12345678, 0] } })
      (fun t => (firstWords t.pv.amag 5, firstWords t.pv.lastph 5, firstWords t.pv.afrq 5)) =
    some ([0x01000000, 0x01000000, 0x01000000, 0, 0], [0, 0x80000000, 0x40000000, 0, 0],
      [0x80000000, 0x80000000, 0x40000000, 0xEDCBA988, 0x100000000]) := by decide +kernel

/-- T-PV-9 at the ratio 0.5, over junk. -/
theorem test_pvshift :
    seen (exec .pvshift { fresh.withPar 0xD0 0x00800000 with pv := { fresh.pv with
        amag := filled [0x100, 0x200, 0x300, 0x400, 0x500], smag := filled [9, 9, 9, 9, 9]
        afrq := filled [0, 0x40000000, 0x80001000, 0xBFFFF000, 0x100000000] } })
      (fun t => (firstWords t.pv.smag 5, firstWords t.pv.sfrq 5, t.flags)) =
    some ([0x100, 0x500, 0x900, 0, 0], [0, 0x40000800, 0x80000000, 0, 0], 0) := by decide +kernel

/-- The state of T-PV-12. -/
def synthesised : State :=
  { fresh with pv := { fresh.pv with
      smag := filled [0x01000000, 0x00800000, 0, 0x40000000, 0x01000000]
      sfrq := filled [0, 0x40000000, 0x123, 0x40000000, 0x180000000]
      sumph := filled [0, 0x20000000, 5, 0, 0] } }

/-- T-PV-12: the phases; bin 3 is doubled and clips; bin 4 is not doubled. -/
theorem test_pvsyn :
    seen (exec .pvsyn synthesised) (fun t => firstWords t.pv.sumph 5) =
      some [0, 0x60000000, 0x128, 0x40000000, 0x80000000] ∧
    ((synthBin 3 synthesised).pv.fi.read 0 3, (synthBin 3 synthesised).flags, (synthBin 4 synthesised).pv.fr.read 0 4)
      = (0x7FFFFFFF, 1, 0xFF000000) := by
  exact ⟨by decide +kernel, by decide +kernel⟩

/-- The state of T-PV-13. -/
def overlapped : State :=
  { fresh with pv := { fresh.pv with
      fr := filled [0x01000000, 0x01000000, 0x01000000, 0x01000000, 0x01000000, 0x01000000, 0x01000000, 0x01000000]
      acc := filled [0x10, 0x20, 0x30, 0x40, 0x50, 0x60, 0x70, 0x80], inf := filled [1, 2, 3, 4, 5, 6, 7, 8] } }

/-- T-PV-13: the input FIFO moves up by one hop; ACC[4] before the shift. -/
theorem test_pvola :
    seen (exec .pvola overlapped) (fun t => firstWords t.pv.inf 8) = some [3, 4, 5, 6, 7, 8, 7, 8] ∧
    (overlapBin 4 overlapped).pv.acc.read 0 4 = 0x00AAAAFB := by
  exact ⟨by decide +kernel, by decide +kernel⟩

/-- R188 from reset: one sample enters INF[6], the muted output adds 0; the second starts a frame (T-PV-14). -/
theorem test_pshblk :
    seen (exec (.pshblk 1 2 1) ((fresh.writeX 64 0x00400000).writeY 128 7)) (fun t =>
      (t.pv.cnt, t.pv.mute, t.pv.inf.read 0 6, t.ybufAt 128)) = some (7, 7, 0x00400000, 7) ∧
    seen (exec (.pshblk 0 0 2) fresh) (fun t => (t.pv.cnt, t.pv.mute)) = some (6, 6) := by
  exact ⟨by decide +kernel, by decide +kernel⟩

/-! ### Compressor (spec/95 section 11) -/

/-- T-ENV-1 and T-ENV-2. -/
theorem test_envlink :
    seen (exec (.envlink 0 0) (fresh.writeX 0 0x80000000)) (fun t => (t.getV 0, t.flags)) = some (0x7FFFFFFF, 1) ∧
    seen (exec (.envlink 0 0) (((fresh.withPar 0xCB 2).writeX 0 0x40000000).writeX 64 0xC0000000)) (fun t =>
      (t.getV 0, t.flags)) = some (0x7FFFFFFF, 1) := by
  exact ⟨by decide +kernel, by decide +kernel⟩

/-- T-ENV-6, step 4: the oldest entry leaves the sum. -/
theorem test_envrms :
    seen (exec (.envrms 1 0) { fresh.setV 0 1 with env := { fresh.env with
        sum := 0x17FFFFFF8, win := filled [0x7FFFFFFA, 0x7FFFFFFF, 0x7FFFFFFF, 0], pos := 0 } })
      (fun t => (t.getV 1, t.env.sum, t.env.pos, firstWords t.env.win 4)) =
    some (0x3FFFFFFF, 0xFFFFFFFE, 1, [0, 0x7FFFFFFF, 0x7FFFFFFF, 0]) := by decide +kernel

/-- T-ENV-12 and T-ENV-20: no overshoot; an interpolated attack step. -/
theorem test_envfol :
    seen (exec (.envfol 2 1) { ((fresh.withPar 0xC6 0x00004000).withPar 0xC7 0x00040000).setV 1 0x01000000 with
        env := { fresh.env with last := 0xFFFFFF9C } }) (fun t => (t.getV 2, t.env.last)) = some (0, 0) ∧
    seen (exec (.envfol 2 1) { ((fresh.withPar 0xC6 0x00040000).withPar 0xC7 0x00004000).setV 1 0x01000000 with
        env := { fresh.env with last := 0xFF000000 } }) (fun t => (t.getV 2, t.env.last)) =
      some (0xFF032AAB, 0xFF032AAB) := by
  exact ⟨by decide +kernel, by decide +kernel⟩

/-- T-ENV-23 and T-ENV-26 (env = 1 inside a knee of three units). -/
theorem test_envgain :
    seen (exec (.envgain 3 2) (((fresh.withPar 0xC2 0x02000000).withPar 0xC3 0x01000000).setV 2 0x80000000))
      (fun t => (t.getV 3, t.env.gain)) = some (0x01000000, 0x01000000) ∧
    seen (exec (.envgain 3 2) ((((fresh.withPar 0xC3 0x01000000).withPar 0xC4 3).withPar 0xC5 0x00800000).setV 2 1))
      (fun t => t.getV 3) = some 0x01000000 := by
  exact ⟨by decide +kernel, by decide +kernel⟩

/-- R207 with reset parameters: LOG10Q(ONE) = 0, zero steps freeze the envelope, the gain is ONE. -/
theorem test_cmpblk :
    seen (exec (.cmpblk 1) ((fresh.writeX 0 0x01000000).writeY 0 5)) (fun t =>
      (t.ybufAt 0, t.env.last, t.env.gain, t.flags)) = some (0x01000005, 0xFB000000, 0x01000000, 0) := by
  decide +kernel

/-- T-CMD-23. -/
theorem test_cmpblk_operand :
    seen (exec (.cmpblk 1025) fresh) record = some (false, 0x10, some .operand, 0x58000401) := by decide +kernel

/-! ### Bus and memory window (spec/95 sections 4 and 5) -/

/-- The port's answer to one input of an idle unit. -/
def answer (s : State) (op : HostOp) : Option (Option Response) := seen (step { s with host := [op] }) State.resp

/-- T-BUS-1 to T-BUS-13, on the reference instance after reset. -/
theorem test_bus_reads :
    [0x0000, 0x0001, 0x0009, 0x000A, 0x000B, 0x000C, 0x0100, 0x02D1, 0x0340, 0x0341, 0x0342, 0x0343, 0x0005].map
      (fun a => answer State.reset (.read a)) =
    [0x42510007, 4, 0x00100400, 0x00040400, 0x00100000, 0x00010100, 0x01000000, 0x00AAAAAB, 0x300, 0x400, 0xFB000000,
      0x01000000, 0].map fun w => some (some (.readDone w false)) := by decide +kernel

/-- T-BUS-17, 19, 22, 24, 26 to 38: the parameters a shadow write refuses, and those it accepts, at the ends of their
ranges. -/
theorem test_bus_shadow_writes :
    ([(0x0105, 0), (0x01C3, 0x01000001), (0x01CA, 4), (0x01CB, 0), (0x01CB, 17), (0x0180, 32), (0x0181, 0x80000000),
      (0x0182, 0xFEFFFFFF), (0x01A2, 0xFFFFFFFF), (0x01D0, 0x003FFFFF), (0x01D0, 0x04000001),
      (0x01C2, 0x02000001)].map fun p => answer State.reset (.write p.1 p.2 0)).all
        (fun r => r == some (some (.writeDone true))) = true ∧
    ([(0x01C3, 0x01000000), (0x01CA, 3), (0x01C4, 0xFFFFFFFF), (0x01CB, 16), (0x0182, 0xFF000000),
      (0x01D0, 0x00400000), (0x01C2, 0xFB000000)].map fun p => answer State.reset (.write p.1 p.2 0)).all
        (fun r => r == some (some (.writeDone false))) = true := by
  exact ⟨by decide +kernel, by decide +kernel⟩

/-- T-BUS-16, 19, 25: FLAGS is write-one-to-clear; an error's record; a negative knee is stored as 0. -/
theorem test_bus_records :
    seen (step { waiting (.write 0x0002 4 0) with flags := 6, lasterr := some .badid, errinfo := 9 }) record =
      some (true, 2, some .badid, 9) ∧
    seen (step (waiting (.write 0x01C3 0x01000001 0))) record = some (true, 2, some .range, 0x800001C3) ∧
    seen (step { waiting (.write 0x01C4 0xFFFFFFFF 0) with ps := fresh.ps.setIfInBounds 0xC4 7 })
      (fun t => t.ps[0xC4]?) = some (some 0) := by
  exact ⟨by decide +kernel, by decide +kernel, by decide +kernel⟩

/-- T-WIN-2, 5, 9, 12, 15, 22, 29, 35 scaled to SMALL: the space, then the index, then the right to write. -/
theorem test_window :
    let at' : Word → Word → State := fun sp m => { fresh with msel := sp, maddr := m }
    (answer (at' 18 0) (.read 8) = some (some (.readDone 0 true)) ∧
      seen (step { at' 18 0 with host := [.read 8] }) record = some (true, 4, some .badid, 8)) ∧
    seen (step { at' 6 2 with host := [.read 8] }) record = some (true, 2, some .range, 8) ∧
    (seen (step { at' 0 0 with host := [.write 8 0x55 0] }) record = some (true, 4, some .badid, 0x80000008) ∧
      seen (step { at' 0 4096 with host := [.write 8 0x55 0] }) record = some (true, 2, some .range, 0x80000008)) ∧
    seen (step { at' 1 1023 with host := [.write 8 0xABCDEF 0] }) (fun t => (t.xbufAt 1023, t.maddr)) =
      some (0xABCDEF, 1024) ∧
    (answer (at' 17 4) (.read 8) = some (some (.readDone 0x01000000 false)) ∧
      answer (at' 16 2) (.read 8) = some (some (.readDone 0xFF000000 false)) ∧
      answer (at' 11 9) (.read 8) = some (some (.readDone 0 false))) := by
  exact ⟨⟨by decide +kernel, by decide +kernel⟩, by decide +kernel, ⟨by decide +kernel, by decide +kernel⟩,
    by decide +kernel, by decide +kernel, by decide +kernel, by decide +kernel⟩

/-- SMALL with a NOP in progress that `left` more transactions find busy. -/
def busyWith (left : Nat) (op : HostOp) : State := { waiting op with running := some ⟨.nop, left⟩, cmdok := false }

/-- T-BUSY-1, 3, 4: what a busy unit answers, and that the command still completes. -/
theorem test_busy :
    [HostOp.read 0, .read 1, .read 3, .read 4].map (fun op => seen (step (busyWith 2 op)) State.resp) =
      [0x42510007, 1, 0, 0].map (fun w => some (some (.readDone w false))) ∧
    (seen (step (busyWith 2 (.read 0x0010))) fun t => (t.resp, record t)) =
      some (some (.readDone 0 true), false, 0x80, some .busy, 0x00000010) ∧
    (seen (step (busyWith 1 (.write 0x0005 0 0))) fun t => (t.resp, record t)) =
      some (some (.writeDone true), true, 0x80, some .busy, 0x80000005) := by
  exact ⟨by decide +kernel, by decide +kernel, by decide +kernel⟩

/-! ### Each statement's hypotheses are met by a concrete state and concrete operands -/

theorem test_witness_DecodingAndEncodingAgree :
    (Instr.rdrtw 15 31 7 7 15).wellFormed = true ∧ (Instr.xadd 15 (-32768)).wellFormed = true ∧
    (Instr.bqblk 31 15 15 2047).wellFormed = true ∧ decode 0x12FFFFE0 = .ok (.rdrtw 15 31 7 7 15) ∧
    decode 0x0AF08000 = .ok (.xadd 15 (-32768)) ∧ decode 0x28FFFFFF = .ok (.bqblk 31 15 15 2047) :=
  ⟨rfl, rfl, rfl, rfl, rfl, rfl⟩

theorem test_witness_DecoderAcceptsExactlyTheOpcodeMap :
    (⟨"CMPBLK", 0x58, 0xFFFFF800, 0x58000000⟩ : OpcodeRow) ∈ opcodeMap ∧
    decode 0x580007FF = .ok (.cmpblk 2047) ∧ (0x580007FF : Word).toNat / 2 ^ 24 = 0x58 ∧
    (0x580007FF : Word) &&& 0xFFFFF800 = 0x58000000 := by
  exact ⟨by decide +kernel, rfl, by decide, by decide⟩

theorem test_witness_StepRunsTheWordWrittenToCmd :
    let s := waiting (.write 0x0005 0x0A700001 0)
    let e := waiting (.write 0x0005 0x0C000000 3)
    (s.cfg.ok = true ∧ s.running = none ∧ s.host = .write 0x0005 0x0A700001 0 :: [] ∧
      decode 0x0A700001 = .ok (.xadd 7 1)) ∧
    (e.cfg.ok = true ∧ e.running = none ∧ e.host = .write 0x0005 0x0C000000 3 :: [] ∧
      decode 0x0C000000 = .error (.unassignedOpcode 0x0C)) :=
  ⟨⟨by decide +kernel, rfl, rfl, rfl⟩, by decide +kernel, rfl, rfl, rfl⟩

theorem test_witness_BusyUnitAnswersFiveReadsAndRefusesTheRest :
    (let s : State := { ringed with host := [.write 0x0005 0x11300020 1] }
     s.cfg.ok = true ∧ s.running = none ∧ s.host = .write 0x0005 0x11300020 (0 + 1) :: [] ∧
       decode 0x11300020 = .ok (.rdrd 3 1 0) ∧ operandsExist (.rdrd 3 1 0) s ∧
       (touchesLine (.rdrd 3 1 0) → s.devok = true)) ∧
    (∀ op ∈ [HostOp.read 0, .read 1, .read 2, .read 3, .read 4, .read 5, .read 0xFFFF, .write 5 0 0],
      ∀ left ∈ [1, 2], (busyWith left op).cfg.ok = true ∧ (busyWith left op).running = some ⟨.nop, left⟩ ∧
        (busyWith left op).host = op :: []) ∧
    5 ≤ (5 : BitVec 16).toNat :=
  ⟨⟨by decide +kernel, by decide +kernel, rfl, rfl, trivial, fun _ => by decide +kernel⟩, by decide +kernel, by decide⟩

/-- Every clause, at the ends of its range. -/
theorem test_witness_IdleReadsReturnTheRegisters :
    (([0x0000, 0x0001, 0x0002, 0x0003, 0x0004, 0x0005, 0x0006, 0x0007, 0x0009, 0x000A, 0x000B, 0x000C, 0x0010, 0x001F,
      0x0020, 0x0027, 0x0040, 0x005F, 0x0060, 0x007F, 0x0080, 0x009F] ++
     [0x0100, 0x01EF, 0x0200, 0x02EF, 0x0300, 0x033C, 0x0301, 0x033D, 0x0302, 0x033E, 0x0340, 0x0341, 0x0342, 0x0343,
      0x0344, 0x0345, 0x0346] : List (BitVec 16)).all (fun a : BitVec 16 =>
        match answer fresh (.read a) with
        | some (some (.readDone _ false)) => true
        | _ => false)) = true ∧
    fresh.cfg.ok = true ∧ fresh.running = none ∧
    (∃ sp, paramSpec small 0xEF = some sp) ∧ fresh.ps[0xEF]? = some 0 ∧ fresh.pa[0xEF]? = some 0 :=
  ⟨by decide +kernel, by decide +kernel, rfl, ⟨_, rfl⟩, by decide +kernel, by decide +kernel⟩

theorem test_witness_IdleWritesStoreTheWord :
    [0x0002, 0x0006, 0x0007, 0x0010, 0x001F, 0x0020, 0x0027, 0x0040, 0x005F].all (fun a : BitVec 16 =>
      let s := waiting (.write a 0xFFFFFFFF 0)
      s.cfg.ok && s.running.isNone && s.host == [.write a 0xFFFFFFFF 0] &&
        answer fresh (.write a 0xFFFFFFFF 0) == some (some (.writeDone false))) = true := by decide +kernel

theorem test_witness_IdleUnitRefusesWhatTheMapDoesNotAllow :
    [0x000D, 0x000F, 0x0028, 0x003F, 0x00A0, 0x00FF, 0x0105, 0x01FF, 0x0205, 0x02FF, 0x0303, 0x033F, 0x0347,
      0xFFFF].all (fun a : BitVec 16 => answer fresh (.read a) == some (some (.readDone 0 true)) &&
        answer fresh (.write a 0 0) == some (some (.writeDone true))) = true ∧
    [0x0000, 0x0001, 0x0003, 0x0004, 0x0009, 0x000C, 0x0060, 0x009F, 0x0200, 0x0346].all (fun a : BitVec 16 =>
      answer fresh (.write a 0 0) == some (some (.writeDone true))) = true ∧
    fresh.cfg.ok = true ∧ fresh.running = none ∧ paramSpec small (0x0105 - 0x0100) = none ∧
    paramSpec small (0x02FF - 0x0200) = none :=
  ⟨by decide +kernel, by decide +kernel, by decide +kernel, rfl, rfl, rfl⟩

/-- A bad enumerator, a negative knee, a word below and above its range, and a word at either end of it. -/
theorem test_witness_ShadowWritesAreValidated :
    [(0x01CA, 4), (0x01C4, 0xFFFFFFFF), (0x01CB, 0), (0x01CB, 17), (0x01CB, 1), (0x01CB, 16)].all
      (fun p : BitVec 16 × Word =>
        let s := waiting (.write p.1 p.2 0)
        s.cfg.ok && s.running.isNone && s.host == [.write p.1 p.2 0] &&
          (paramSpec small (p.1.toNat - 0x0100)).isSome) = true ∧
    (0x01EF : BitVec 16).toNat = 0x0100 + (0xEF : Fin 256).val ∧
    ((0xD0, ⟨.q, 4194304, 67108864, 16777216⟩) ∈ r37 small ∧ (0xEF, ⟨.q, -2147483648, 2147483647, 0⟩) ∈ r37 small) :=
  ⟨by decide +kernel, by decide, by decide +kernel, by decide +kernel⟩

/-- R37: the two forms of its table have the same rows. -/
theorem test_r37_rows :
    (List.range 256).all (fun p =>
      decide ((((r37 small).filter fun r => r.1 == p).map fun r => r.2) = (paramSpec small p).toList)) = true := by
  decide +kernel

/-- Every space at its last index, and one past it. -/
theorem test_witness_MemoryWindowReadsWritesAndSteps :
    (List.range 18).all (fun sp => match (windowSizes small)[sp]? with
      | none => false
      | some size =>
        answer { fresh with msel := BitVec.ofNat 32 sp, maddr := BitVec.ofNat 32 size } (.read 8) ==
          some (some (.readDone 0 true)) && decide (0 < size)) = true ∧
    (windowSizes small)[18]? = none ∧ (18 : Word).toNat = 18 ∧ (windowSizes small)[11]? = some 10 ∧
    (10 - 1 = 2 * 4 + 1) ∧
    fresh.cfg.ok = true ∧ fresh.running = none ∧ (waiting (.read 0x0008)).host = [.read 0x0008] ∧
    (waiting (.write 0x0008 7 0)).host = [.write 0x0008 7 0] :=
  ⟨by decide +kernel, rfl, rfl, rfl, rfl, by decide +kernel, rfl, rfl, rfl⟩

theorem test_witness_ResetLeavesTheResetTable :
    let s := { busyWith 5 .reset with flags := 0xFF }
    s.cfg.ok = true ∧ s.host = .reset :: [] ∧ ∃ sp, paramSpec s.cfg 0xC0 = some sp :=
  ⟨by decide +kernel, rfl, _, rfl⟩

theorem test_witness_EveryVisibleTransactionCompletes :
    (∀ op ∈ [HostOp.reset, .read 0xFFFF, .write 0 0 0, .bridgeRead 0x14 4, .bridgeWrite 0x3FFFC 4 1 0],
      visible op = true) ∧ (waiting .reset).cfg.ok = true ∧
    visible (.bridgeRead 0x15 4) = false ∧ visible (.bridgeWrite 0x14 2 0 0) = false ∧
    ((0x3FFFC : BitVec 18).toNat % 4 = 0 ∧ (0x15 : BitVec 18).toNat % 4 ≠ 0 ∧ (2 : Nat) ≠ 4) ∧
    ({ fresh with cfg := { small with pvN := 12 } } : State).cfg.ok = false ∧
    (fresh.cfg.ok = true ∧ fresh.host = [] ∧ fresh.running = none) ∧
    (let s : State := { fresh with running := some ⟨.nop, 3⟩ }
     s.cfg.ok = true ∧ s.host = [] ∧ s.running = some ⟨.nop, 3⟩) := by
  exact ⟨by decide +kernel, by decide +kernel, by decide +kernel, by decide +kernel, by decide +kernel,
    by decide +kernel, by decide +kernel, by decide +kernel⟩

/-- One ill operand for each command that has one. -/
theorem test_witness_BadOperandsRaiseEOperand :
    let s := (fresh.setX 1 64).setX 2 4
    (∀ i ∈ [Instr.ldx 0 0 1, .acy 0 1 0, .xadd 8 0, .mixo 1 0, .bq2 0 16 0, .bq1 0 16 0, .ap 0 8 0 0,
        .bqblk 0 0 0 65, .hhmix 13 0, .rotmix 0 13, .fdnstep 13 0 0, .bfly 0 0 2 0, .bfly 0 0 8 0, .bfly 1 0 0 0,
        .fft 2, .pshblk 0 0 65, .envlink 0 1, .cmpblk 65], i.wellFormed = true) ∧
    ¬ operandsExist (.ldx 0 0 1) s ∧ ¬ operandsExist (.acy 0 1 0) s ∧ ¬ operandsExist (.xadd 8 0) s ∧
    ¬ operandsExist (.mixo 1 0) s ∧ ¬ operandsExist (.bq2 0 16 0) s ∧ ¬ operandsExist (.bq1 0 16 0) s ∧
    ¬ operandsExist (.ap 0 8 0 0) s ∧ ¬ operandsExist (.bqblk 0 0 0 65) s ∧ ¬ operandsExist (.hhmix 13 0) s ∧
    ¬ operandsExist (.rotmix 0 13) s ∧ ¬ operandsExist (.fdnstep 13 0 0) s ∧ ¬ operandsExist (.bfly 0 0 2 0) s ∧
    ¬ operandsExist (.bfly 0 0 8 0) s ∧ ¬ operandsExist (.bfly 1 0 0 0) s ∧ ¬ operandsExist (.fft 2) s ∧
    ¬ operandsExist (.pshblk 0 0 65) s ∧ ¬ operandsExist (.envlink 0 1) s ∧ ¬ operandsExist (.cmpblk 65) s := by
  simp only [operandsExist]
  decide +kernel

theorem test_witness_LineCommandsWithoutADeviceRaiseENodev :
    (∀ i ∈ [Instr.rdwr 31 7 15, .rdrd 15 31 7, .rdrtw 15 31 7 7 15, .ap 15 7 7 15, .fdnstep 12 7 12],
      i.wellFormed = true ∧ touchesLine i ∧ operandsExist i fresh) ∧ fresh.devok = false := by
  refine ⟨?_, rfl⟩
  intro i hi
  simp only [List.mem_cons, List.not_mem_nil, or_false] at hi
  rcases hi with rfl | rfl | rfl | rfl | rfl <;>
    exact ⟨rfl, trivial, by first | trivial | (simp only [operandsExist]; decide)⟩

/-- Powers of two are the least at or above themselves. -/
theorem leastPow2_nextPow2_one : LeastPow2 1 1 := ⟨⟨0, rfl⟩, le_refl 1, fun _ h => h⟩

theorem leastPow2_two_pow (k : Nat) : LeastPow2 (2 ^ k) (2 ^ k) := ⟨⟨k, rfl⟩, le_refl _, fun _ h => h⟩

/-- Line 0 asks for 8191 samples, twice SMALL's arena; and one for more than 2^31. -/
theorem test_witness_OversizedArenaRaisesEAlloc :
    (let s := fresh.request 0 8191
     let len : Nat → Nat := fun d => if d = 0 then 8192 else 1
     (∀ d, d < 32 → LeastPow2 (max 1 (need s d)) (len d)) ∧ s.cfg.dmWords < sumUpTo 32 len) ∧
    (let s := fresh.request 0 0x80000000
     let len : Nat → Nat := fun d => if d = 0 then 2 ^ 32 else 1
     (∀ d, d < 32 → LeastPow2 (max 1 (need s d)) (len d)) ∧ ∃ d, d < 32 ∧ 2 ^ 31 < need s d) := by
  refine ⟨⟨fun d hd => ?_, by decide +kernel⟩, fun d hd => ?_, 0, by decide, by decide +kernel⟩
  · by_cases h : d = 0
    · subst h
      have e : max 1 (need (fresh.request 0 8191) 0) = 2 ^ 13 := by decide +kernel
      show LeastPow2 _ (2 ^ 13)
      rw [e]; exact leastPow2_two_pow 13
    · have e : ∀ d, d < 32 → d ≠ 0 → max 1 (need (fresh.request 0 8191) d) = 1 := by decide +kernel
      show LeastPow2 _ (if d = 0 then 8192 else 1)
      rw [e d hd h, if_neg h]; exact leastPow2_nextPow2_one
  · by_cases h : d = 0
    · subst h
      have e : max 1 (need (fresh.request 0 0x80000000) 0) = 2 ^ 31 + 1 := by decide +kernel
      show LeastPow2 _ (2 ^ 32)
      rw [e]
      refine ⟨⟨32, rfl⟩, by decide, fun k hk => Nat.pow_le_pow_right (by decide) ?_⟩
      by_contra hc
      have := Nat.pow_le_pow_right (show 0 < 2 by decide) (show k ≤ 31 by omega)
      omega
    · have e : ∀ d, d < 32 → d ≠ 0 → max 1 (need (fresh.request 0 0x80000000) d) = 1 := by decide +kernel
      show LeastPow2 _ (if d = 0 then 2 ^ 32 else 1)
      rw [e d hd h, if_neg h]; exact leastPow2_nextPow2_one

/-- The highest operands of every command, on a unit with its lines allocated. -/
theorem test_witness_AcceptedCommandsComplete :
    let s := ((reverb.setX 0 63).setX 1 7).setX 2 3
    (∀ i ∈ [Instr.ldx 15 15 0, .acy 15 0 15, .xadd 7 32767, .mixo 0 15, .bq2 15 15 15, .bq1 15 15 15, .ap 15 7 7 15,
        .bqblk 15 15 15 64, .hhmix 12 12, .rotmix 12 12, .fdnstep 12 7 12, .bfly 1 1 2 1, .fft 1, .pshblk 15 15 64,
        .envlink 15 0, .cmpblk 64, .rdwr 31 7 15, .rdrd 15 31 7, .rdrtw 15 31 7 7 15],
      operandsExist i s) ∧
    (∀ i ∈ [Instr.nop, .init, .devupd, .commit, .fftbrev, .pvwin, .pvana, .pvshift, .pvsyn, .pvola, .envrms 15 15,
        .envfol 15 15, .envgain 15 15], operandsExist i s) ∧
    s.devok = true ∧ (∀ d, d < 32 → need s d ≤ 2 ^ 31) ∧ s.newTotal ≤ s.cfg.dmWords := by
  refine ⟨?_, ?_, by decide +kernel, by decide +kernel, by decide +kernel⟩
  · intro i hi
    simp only [List.mem_cons, List.not_mem_nil, or_false] at hi
    rcases hi with rfl | rfl | rfl | rfl | rfl | rfl | rfl | rfl | rfl | rfl | rfl | rfl | rfl | rfl | rfl | rfl | rfl |
      rfl | rfl <;> first | trivial | (simp only [operandsExist]; decide +kernel)
  · intro i hi
    simp only [List.mem_cons, List.not_mem_nil, or_false] at hi
    rcases hi with rfl | rfl | rfl | rfl | rfl | rfl | rfl | rfl | rfl | rfl | rfl | rfl | rfl <;> trivial

/-- Every command answers a next state; each clause on a memory or a register has a command that is a neighbour of the
named ones; a command that completes and a command that is rejected. -/
theorem test_witness_OnlyTheNamedCommandsWriteEachState :
    [Instr.commit, .xadd 7 1, .rdrd 15 31 7, .ldx 15 15 0, .pvola, .pvsyn, .pvshift, .pvwin, .pvana, .envfol 1 2,
      .envgain 1 2, .envrms 1 2, .envlink 1 0, .acy 0 0 1, .bq1 15 15 15, .fft 1].all (fun i =>
        (seen (exec i fresh) fun _ => true) == some true) = true ∧
    (Instr.commit ≠ .init ∧ ¬ writesTap .commit ∧ Instr.rdrd 15 31 7 ≠ .devupd) ∧
    ((Instr.pvola).opcode ∉ [0x01, 0x40, 0x41, 0x42, 0x43, 0x46, 0x48] ∧ (Instr.pvsyn).opcode ∉ [0x01, 0x47, 0x48] ∧
      (Instr.pvshift).opcode ∉ [0x01, 0x44, 0x48] ∧ (Instr.pvana).opcode ∉ [0x01, 0x46, 0x48] ∧
      (Instr.fft 1).opcode ∉ [0x01, 0x45, 0x48]) ∧
    ((Instr.envfol 1 2).opcode ∉ [0x01, 0x51, 0x58] ∧ (Instr.envgain 1 2).opcode ∉ [0x01, 0x52, 0x58] ∧
      (Instr.envrms 1 2).opcode ∉ [0x01, 0x53, 0x58]) ∧
    (Instr.pvana).opcode ∉ [0x09, 0x0B, 0x20, 0x21, 0x22, 0x28, 0x30, 0x31, 0x32, 0x41, 0x42, 0x45, 0x46, 0x47, 0x48,
      0x50, 0x51, 0x58] ∧
    (seen (exec (.xadd 7 1) fresh) State.cmdok = some true ∧ seen (exec (.xadd 8 1) fresh) State.cmdok = some false) := by
  exact ⟨by decide +kernel, ⟨by decide, fun h => h, by decide⟩, by decide, by decide, by decide, by decide +kernel,
    by decide +kernel⟩

/-! Invariants: states that meet them, with a command waiting. -/

/-- Lines allocated, and a COMMIT as the next input. -/
def invariantState : State := ringed.withFetchWord 32 0x03000000

theorem invariantState_steps : ∃ t, step invariantState = .next t := ⟨_, rfl⟩

theorem test_witness_StepsKeepMemoriesCanonical :
    memoriesCanonical invariantState ∧ ∃ t, step invariantState = .next t := by
  refine ⟨?_, invariantState_steps⟩
  unfold memoriesCanonical
  decide +kernel

theorem ringed_linesPacked (s : State) (h : s.dllen = ringed.dllen) (hb : s.dlbase = ringed.dlbase)
    (hc : s.cfg = small) : LinesPacked s := by
  have el : ∀ d, s.dlLen d = ringed.dlLen d := fun d => by unfold State.dlLen; rw [h]
  have eb : ∀ d, s.dlBase d = ringed.dlBase d := fun d => by unfold State.dlBase; rw [hb]
  have eo : ∀ d, lineOffset s d = lineOffset ringed d := fun d => by unfold lineOffset; simp only [el]
  refine ⟨fun d hd => ?_, fun _ d hd => ?_, fun d hd => ?_, ?_⟩
  · rw [el]
    have : ∀ d, d < 32 → (ringed.dlLen d).toNat = 2 ^ 0 ∨ (ringed.dlLen d).toNat = 2 ^ 2 ∨
        (ringed.dlLen d).toNat = 2 ^ 3 := by decide +kernel
    rcases this d hd with e | e | e
    · exact .inr ⟨0, by decide, e⟩
    · exact .inr ⟨2, by decide, e⟩
    · exact .inr ⟨3, by decide, e⟩
  · rw [el]
    have : ∀ d, d < 32 → (ringed.dlLen d).toNat ≠ 0 := by decide +kernel
    exact this d hd
  · rw [eb, eo]
    have : ∀ d, d < 32 → (ringed.dlBase d).toNat = lineOffset ringed d := by
      unfold lineOffset; decide +kernel
    exact this d hd
  · rw [eo, hc]
    unfold lineOffset; decide +kernel

theorem test_witness_StepsKeepTheLinesPackedAndCleared :
    LinesPacked invariantState ∧ arenaCleared invariantState ∧ ∃ t, step invariantState = .next t := by
  refine ⟨ringed_linesPacked _ rfl rfl rfl, ?_, invariantState_steps⟩
  unfold arenaCleared lineOffset
  decide +kernel

/-- A defined parameter index is below 0xF0. -/
theorem paramSpec_index {c : Config} {p : Nat} {sp : ParamSpec} (h : paramSpec c p = some sp) : p < 0xF0 := by
  by_contra hc
  unfold paramSpec at h
  iterate 26 rw [if_neg (by omega)] at h
  cases h

/-- A bank is legal if a table look-up at each of its indices says so. -/
theorem bankLegal_of_table {c : Config} {bank : Vector Word 256}
    (h : ∀ p, p < 0xF0 → (match paramSpec c p with
      | some sp => (bank[p]?.map sp.legal).getD false
      | none => true) = true)
    (hk : 0 ≤ (bank[pCKnee]?.getD 0).toInt) : bankLegal c bank := by
  refine ⟨fun p sp hp => ?_, ?_⟩
  · have hb := paramSpec_index hp
    have := h p hb
    rw [hp] at this
    obtain ⟨w, hw⟩ : ∃ w, bank[p]? = some w := ⟨bank[p]'(by omega), by simp [show p < 256 by omega]⟩
    refine ⟨w, hw, ?_⟩
    simpa [hw] using this
  · obtain ⟨w, hw⟩ : ∃ w, bank[pCKnee]? = some w := ⟨bank[pCKnee]'(by decide), by simp [pCKnee]⟩
    exact ⟨w, hw, by simpa [hw] using hk⟩

theorem fresh_bankLegal : bankLegal small fresh.ps := bankLegal_of_table (by decide +kernel) (by decide +kernel)

theorem reverb_bankLegal : bankLegal small reverb.pa := bankLegal_of_table (by decide +kernel) (by decide +kernel)

theorem test_witness_StepsKeepTheParametersLegal :
    paramsLegal invariantState ∧ ∃ t, step invariantState = .next t :=
  ⟨⟨fresh_bankLegal, fresh_bankLegal⟩, invariantState_steps⟩

theorem test_witness_StepsKeepTheVocoderCountersInRange :
    fifoInRange invariantState ∧ ∃ t, step invariantState = .next t := by
  refine ⟨?_, invariantState_steps⟩
  unfold fifoInRange
  decide +kernel

theorem test_witness_StepsKeepTheRmsSumExact :
    rmsExact invariantState ∧ ∃ t, step invariantState = .next t := by
  refine ⟨?_, invariantState_steps⟩
  unfold rmsExact
  decide +kernel

theorem test_witness_ResetMeetsEveryInvariant : Config.reference.ok = true ∧ small.ok = true := by decide +kernel

theorem test_witness_RingAccessesStayInTheirOwnClearedLine :
    LinesPacked ringed ∧ ringed.devok = true ∧ 31 < 32 ∧ arenaCleared ringed := by
  refine ⟨ringed_linesPacked _ rfl rfl rfl, by decide +kernel, by decide, ?_⟩
  unfold arenaCleared lineOffset
  decide +kernel

theorem test_witness_CommandsLeaveDmOutsideTheLinesAlone :
    (Instr.rdwr 31 7 15).wellFormed = true ∧ LinesPacked ringed ∧ bankLegal ringed.cfg ringed.pa ∧
    (∃ t, exec (.rdwr 31 7 15) ringed = .next t) ∧ ∃ t, exec .devupd ringed = .next t := by
  refine ⟨rfl, ringed_linesPacked _ rfl rfl rfl, fresh_bankLegal, ?_, ?_⟩
  · show ∃ t, execRdwr 31 7 15 ringed = .next t
    exact runCommand_next _ _ _ _ _
  show ∃ t, execDevupd ringed = .next t
  unfold execDevupd
  split
  · exact runCommand_next _ _ _ _ _
  · exact ⟨_, rfl⟩

theorem test_witness_NextPowerOfTwoIsTheLeastOne : 1 ≤ 2 ^ 31 ∧ 2 ^ 31 ≤ 2 ^ 31 := by decide

theorem test_witness_ConfigurationFunctionsMeetTheirAnchors :
    (0xC0000000 : Word) ≠ 0x80000000 ∧ (0 : Int) ≤ (5 : Word).toInt ∧ (0xFFFFFFFB : Word).toInt < 0 ∧
    Config.reference.ok = true ∧ (1 : Int) ≤ 16777216 ∧ (16777216 : Int) ≤ 2147483647 ∧
    (511 < Config.reference.pvN / 2 ∧ 1023 < Config.reference.pvN) := by decide +kernel

/-- A shift of one bit; the smallest word and its neighbour; a canonical memory; a defined index. -/
theorem test_witness_small_hypotheses :
    1 ≤ 1 ∧ (0x80000000 : Word).toInt = -2147483648 ∧ (0x80000001 : Word).toInt ≠ -2147483648 ∧ fresh.dm.wf = true ∧
    paramSpec fresh.cfg 0xD0 = some ⟨.q, one / 4, 4 * one, one⟩ :=
  ⟨by decide, by decide, by decide, rfl, rfl⟩

theorem test_witness_DevupdLaysOutAndClearsTheLines :
    (let len : Nat → Nat := fun _ => 1
     fresh.cfg.ok = true ∧ (∀ d, d < 32 → need fresh d ≤ 2 ^ 31) ∧
       (∀ d, d < 32 → LeastPow2 (max 1 (need fresh d)) (len d)) ∧ sumUpTo 32 len ≤ fresh.cfg.dmWords ∧
       ∃ d, d < 32 ∧ len d ≠ (fresh.dlLen d).toNat) ∧
    (let len : Nat → Nat := fun _ => 1
     let s := fresh.deviceUpdate
     s.cfg.ok = true ∧ (∀ d, d < 32 → need s d ≤ 2 ^ 31) ∧
       (∀ d, d < 32 → LeastPow2 (max 1 (need s d)) (len d)) ∧ sumUpTo 32 len ≤ s.cfg.dmWords ∧
       ∀ d, d < 32 → len d = (s.dlLen d).toNat) := by
  have e1 : ∀ d, d < 32 → max 1 (need fresh d) = 1 := by decide +kernel
  have e2 : ∀ d, d < 32 → max 1 (need fresh.deviceUpdate d) = 1 := by decide +kernel
  refine ⟨⟨by decide +kernel, by decide +kernel, fun d hd => ?_, by decide +kernel, 0, by decide, by decide +kernel⟩,
    by decide +kernel, by decide +kernel, fun d hd => ?_, by decide +kernel, by decide +kernel⟩
  · rw [e1 d hd]; exact leastPow2_nextPow2_one
  · rw [e2 d hd]; exact leastPow2_nextPow2_one

/-- LdxAndAcyMoveOneSampleOfABlock, XaddAdvancesModuloTwoToThe32, MixoAddsThroughEveryAudibleGain. -/
theorem test_witness_block_interface :
    let s := fresh.setX 7 63
    ((Instr.ldx 15 15 7).wellFormed = true ∧ operandsExist (.ldx 15 15 7) s) ∧
    ((Instr.acy 15 7 15).wellFormed = true ∧ operandsExist (.acy 15 7 15) s) ∧
    ((Instr.xadd 7 (-32768)).wellFormed = true ∧ 7 ≤ 7) ∧
    ((Instr.mixo 7 15).wellFormed = true ∧ operandsExist (.mixo 7 15) s) := by
  simp only [operandsExist]
  decide +kernel

theorem test_witness_RingCommandsReadAndWriteTheLine :
    (Instr.rdrtw 15 31 7 7 15).wellFormed = true ∧ ringed.devok = true := by decide +kernel

/-- BiquadTapsFollowTheirEquations, AllPassTapFollowsItsEquations, BlockBiquadFiltersAndAccumulates. -/
theorem test_witness_filters :
    ((Instr.bq2 15 15 15).wellFormed = true ∧ 15 < 16) ∧
    ((Instr.ap 15 7 7 15).wellFormed = true ∧ 7 < 8 ∧ ringed.devok = true) ∧
    ((Instr.bqblk 15 15 15 64).wellFormed = true ∧ operandsExist (.bqblk 15 15 15 64) fresh) := by
  simp only [operandsExist]
  decide +kernel

theorem test_witness_MixingMatricesFollowTheirRows : 12 ≤ 12 ∧ 0 ≤ 12 := by decide

/-- The reverb of T-FDN-2 has distinct dampers and distinct lines. -/
theorem test_witness_FdnStepClosesTheReverbLoop :
    (Instr.fdnstep 12 7 12).wellFormed = true ∧ reverb.devok = true ∧ LinesPacked reverb ∧
    bankLegal reverb.cfg reverb.pa ∧
    (let line : Nat → Nat := fun c => reverb.parU (0xA4 + c)
     let bank : Nat → Nat := fun c => reverb.parU (0xAC + c)
     let apLine : Nat → Nat := fun c => reverb.parU (0x80 + 4 * reverb.parU (0xB0 + c))
     (∀ c, c < 4 → ∀ e, e < 4 → c ≠ e → bank c ≠ bank e ∧ line c ≠ line e ∧ apLine c ≠ apLine e) ∧
     ∀ c, c < 4 → ∀ e, e < 4 → line c ≠ apLine e) ∧
    -- with the reset parameters all banks and lines collide
    (ringed.devok = true ∧ bankLegal ringed.cfg ringed.pa ∧ ringed.parU 0xAC = ringed.parU 0xAD ∧
      ringed.parU 0xA4 = ringed.parU 0x80) := by
  refine ⟨rfl, by decide +kernel, ⟨fun d hd => ?_, fun _ d hd => ?_, fun d hd => ?_, ?_⟩, reverb_bankLegal,
    ⟨by decide +kernel, by decide +kernel⟩, by decide +kernel, fresh_bankLegal, by decide +kernel, by decide +kernel⟩
  · have : ∀ d, d < 32 → (reverb.dlLen d).toNat = 2 ^ 0 ∨ (reverb.dlLen d).toNat = 2 ^ 2 ∨
        (reverb.dlLen d).toNat = 2 ^ 3 ∨ (reverb.dlLen d).toNat = 2 ^ 4 := by decide +kernel
    rcases this d hd with e | e | e | e
    · exact .inr ⟨0, by decide, e⟩
    · exact .inr ⟨2, by decide, e⟩
    · exact .inr ⟨3, by decide, e⟩
    · exact .inr ⟨4, by decide, e⟩
  · have : ∀ d, d < 32 → (reverb.dlLen d).toNat ≠ 0 := by decide +kernel
    exact this d hd
  · have : ∀ d, d < 32 → (reverb.dlBase d).toNat = lineOffset reverb d := by
      unfold lineOffset; decide +kernel
    exact this d hd
  · unfold lineOffset; decide +kernel

/-- The statements on FFTBREV, FFT, PVWIN, PVANA, PVSYN and PVOLA ask for an instance alone, index 1 of eight being
index 4 reversed; those on PVSHIFT and BFLY for a ratio at or above 0, a bin that is the last source of its destination
with a frequency that fits, and for entries that exist. -/
theorem test_witness_vocoder :
    fresh.cfg.ok = true ∧ (0 : Int) ≤ fresh.parQ 0xD0 ∧
    (shiftTarget fresh 4 = (4 : Nat) ∧ 4 ≤ fresh.cfg.pvN / 2 ∧ ¬ (∃ m, 4 < m ∧ m ≤ fresh.cfg.pvN / 2) ∧
      rnd 24 ((fresh.pv.afrq.read 0 4).toInt * fresh.parQ 0xD0) = 0) ∧
    (∀ k, k < Nat.log2 fresh.cfg.pvN → (4 : Nat).testBit k = (1 : Nat).testBit (Nat.log2 fresh.cfg.pvN - 1 - k)) ∧
    ((Instr.bfly 1 1 2 1).wellFormed = true ∧ operandsExist (.bfly 1 1 2 1) ((fresh.setX 1 7).setX 2 3)) := by
  simp only [operandsExist]
  exact ⟨by decide +kernel, by decide +kernel, ⟨by decide +kernel, by decide +kernel,
    fun ⟨m, h1, h2⟩ => absurd (show m ≤ 4 from h2) (by omega), by decide +kernel⟩, by decide +kernel, by decide +kernel⟩

theorem test_witness_ForwardTransformOfAConstantIsItsDcBin :
    let s := { fresh with pv := { fresh.pv with fr := filled (List.replicate 8 (0x00200000 : Word)) } }
    s.cfg.ok = true ∧ ∀ k, k < s.cfg.pvN → s.pv.fr.read 0 k = 0x00200000 ∧ s.pv.fi.read 0 k = 0 := by decide +kernel

/-- PshblkStreamsThroughTheFifos, PshblkFrameIsTheSevenStepCommands (the second sample of a block fills the FIFO; the
first does not), TheFirstFifoLatencyOutputsAreSilent (a block longer than PVMUTE). -/
theorem test_witness_Pshblk :
    ((Instr.pshblk 15 15 1).wellFormed = true ∧ operandsExist (.pshblk 15 15 1) fresh ∧ fresh.cfg.ok = true ∧
      fifoInRange fresh ∧ fresh.pv.cnt.toNat + 1 < fresh.cfg.pvN) ∧
    (operandsExist (.pshblk 15 15 (1 + 1)) fresh ∧
      seen (exec (.pshblk 15 15 1) fresh) (fun a => decide (a.pv.cnt.toNat + 1 = fresh.cfg.pvN)) = some true ∧
      seen (exec (.pshblk 15 15 0) fresh) (fun a => decide (a.pv.cnt.toNat + 1 = fresh.cfg.pvN)) = some false) ∧
    ((Instr.pshblk 15 15 9).wellFormed = true ∧ operandsExist (.pshblk 15 15 9) fresh ∧ fresh.pv.mute.toNat = 8) := by
  simp only [operandsExist, fifoInRange]
  decide +kernel

/-- EXP10Q is at most ONE (R17), for the witness below. -/
theorem exp10q_le_one (e : Int) : exp10q e ≤ one := by
  unfold exp10q
  cases (-e).toNat with
  | zero => exact le_refl _
  | succ n => exact (min_le_right _ _).trans (max_le (by decide) (min_le_left _ _))

/-- SMALL as a limiter at -20 dB, with the envelope settled at 0 dB and a sample at full scale. -/
def limited : State :=
  let s := (fresh.withPar 0xC3 0x01000000).withPar 0xC2 0xFF000000
  { s with env := { s.env with last := 0 }, xbuf := s.xbuf.write 0 0x01000000, ybuf := s.ybuf.write 0 0 }

/-- `limited` with the RMS window, full of the sample's square. -/
def limitedRms : State :=
  let s := limited.withPar 0xCA 2
  { s with env := { s.env with sum := 0x04000000, win := filled (List.replicate 4 (0x01000000 : Word)) } }

theorem limited_settled : ∀ i, i ≤ 1 → (chainRun limited i).env.last = limited.env.last := by
  intro i hi
  obtain rfl | rfl : i = 0 ∨ i = 1 := by omega
  · rfl
  · decide +kernel

theorem test_witness_TheSettledLimiterHoldsTheThreshold :
    ((Instr.cmpblk 1).wellFormed = true ∧ operandsExist (.cmpblk 1) limited ∧ limited.parQ 0xC0 = 16777216 ∧
      limited.parQ 0xC1 = 16777216 ∧ limited.parQ 0xC3 = 16777216 ∧ limited.parQ 0xC4 = 0 ∧
      limited.parQ 0xC2 ≤ limited.env.last.toInt) ∧
    (∀ i, i ≤ 1 → (chainRun limited i).env.last = limited.env.last) ∧
    (2 ^ 24 * Real.logb 10 ((16777216 : Nat) / 2 ^ 24) ≤ (limited.env.last.toInt : ℝ) + 0) ∧
    ((exp10q (max (-83886080) (limited.parQ 0xC2 - limited.env.last.toInt)) : ℝ) ≤
      2 ^ 24 * (10 : ℝ) ^ ((max (-83886080) (limited.parQ 0xC2 - limited.env.last.toInt) : Int) / 2 ^ 24 : ℝ) +
        16777216) ∧
    (0 < limited.parU 0xCB ∧ |(limited.xbufAt 0).toInt| ≤ (16777216 : Nat) ∧ (limited.ybufAt 0).toInt = 0) ∧
    ((linkStep 0 limited).1.toInt = 16777216 ∧ limited.parU 0xCA / 2 % 2 = 0 ∧
      limited.env.last.toInt = max (-83886080) (log10q 16777216)) ∧
    ((linkStep 0 limitedRms).1.toInt = 16777216 ∧ limitedRms.parU 0xCA / 2 % 2 = 1 ∧ limitedRms.cfg.ok = true ∧
      rmsExact limitedRms ∧ (sat32 (rnd 24 (16777216 * 16777216))).toInt = 16777216 ∧
      (∀ j, j < limitedRms.cfg.rmsWin → (limitedRms.env.win.read 0 j).toInt = 16777216) ∧
      limitedRms.env.last.toInt = max (-83886080) (rnd 1 (log10q 16777216))) := by
  have hl : limited.env.last.toInt = 0 := by decide +kernel
  refine ⟨?_, limited_settled, ?_, ?_, ?_, ?_, ?_⟩
  · simp only [operandsExist]; decide +kernel
  · rw [hl]; norm_num
  · have h1 : (exp10q (max (-83886080) (limited.parQ 0xC2 - limited.env.last.toInt)) : ℝ) ≤ 16777216 := by
      exact_mod_cast exp10q_le_one _
    have h2 : (0 : ℝ) ≤
        2 ^ 24 * (10 : ℝ) ^ ((max (-83886080) (limited.parQ 0xC2 - limited.env.last.toInt) : Int) / 2 ^ 24 : ℝ) := by
      positivity
    linarith
  · decide +kernel
  · decide +kernel
  · simp only [rmsExact]; decide +kernel

/-- The statements on ENVLINK (both linkings), ENVRMS, ENVFOL, ENVGAIN and CMPBLK. -/
theorem test_witness_compressor :
    ((Instr.envlink 15 7).wellFormed = true ∧ operandsExist (.envlink 15 7) (fresh.setX 7 63) ∧
      1 ≤ fresh.parU 0xCB ∧ (fresh.withPar 0xCA 1).parU 0xCA % 2 = 1 ∧ fresh.parU 0xCA % 2 = 0) ∧
    ((Instr.envrms 15 15).wellFormed = true ∧ fresh.cfg.ok = true ∧ rmsExact fresh) ∧
    ((Instr.envfol 15 15).wellFormed = true ∧ (Instr.envgain 15 15).wellFormed = true) ∧
    (operandsExist (.cmpblk 64) fresh ∧ (Instr.cmpblk 64).wellFormed = true ∧ 1 ≤ fresh.cfg.blockMax ∧
      fresh.getX 0 = 0) := by
  simp only [operandsExist, rmsExact]
  decide +kernel

/-- A level at or below 0 with the envelope at its floor, and envelopes below and above their targets. -/
theorem test_witness_EnvfolFollowsWithoutOvershoot :
    bankLegal fresh.cfg fresh.pa ∧ (0 : Word).toInt ≤ 0 ∧ fresh.env.last.toInt = -83886080 ∧
    (fresh.env.last.toInt < log10q 16777216 ∧ (-83886080 : Int) < (0xFF000000 : Word).toInt) :=
  ⟨fresh_bankLegal, by decide +kernel, by decide +kernel, by decide +kernel, by decide +kernel⟩

/-! ### The host's side (R111 and 47_host_coefficients.md) -/

/-- R111: `XINC X3` writes the word 0x0A000001 + (3 << 20), then polls STATUS. -/
theorem test_xinc_expands : hostXINC 3 0 = [.write 0x0005 0x0A300001 0, .read 0x0001] := by decide +kernel

/-- R111: `PUTX #1, #2, v` on SMALL writes XBUF[1][2], the linear index 66. -/
theorem test_putx_runs :
    seen (step { fresh with host := hostPUTX small 1 2 0x1234 }) (fun a =>
      seen (step a) (fun b => seen (step b) (fun c => (c.xbufAt 66, c.host)))) =
    some (some (some (0x1234, []))) := by decide +kernel

/-- R220: the examples 1.0, 2^-25, -2^-25 and -200.0. -/
theorem test_q24_examples :
    q24 1 = 0x01000000 ∧ q24 (1 / 2 ^ 25) = 1 ∧ q24 (-(1 / 2 ^ 25)) = 0 ∧ q24 (-200) = 0x80000000 := by
  refine ⟨?_, ?_, ?_, ?_⟩ <;> norm_num [q24] <;> decide

/-- R220: the example -0.3. -/
theorem test_q24_negative : q24 (-3 / 10) = 0xFFB33333 := by norm_num [q24]; decide

/-- R226: diffusion 0 gives (ONE, 0), the identity. -/
theorem test_rotation_identity : q24 (rotationX 0) = 0x01000000 ∧ q24 (rotationY 0) = 0 := by
  constructor <;> norm_num [rotationX, rotationY, rotationAngle, q24] <;> decide

/-- R228: 0 and +12 semitones. -/
theorem test_pitchRatio : q24 (pitchRatio 0 0) = 0x01000000 ∧ q24 (pitchRatio 12 0) = 0x02000000 := by
  constructor <;> norm_num [pitchRatio, q24] <;> decide

/-- R229: ratio 4 gives 0x00C00000, ratio 1 gives 0, the limiter ONE. -/
theorem test_slope :
    q24 (slopeOfRatio 4) = 0x00C00000 ∧ q24 (slopeOfRatio 1) = 0 ∧ q24 (slopeOfReciprocal 0) = 0x01000000 := by
  refine ⟨?_, ?_, ?_⟩ <;> norm_num [slopeOfRatio, slopeOfReciprocal, q24] <;> decide

end Sys2Proof.Tests
end

section
/-! # What every command does (30_encoding.md R112): its checks, its effect, and what is noted in FLAGS -/

namespace Sys2Proof.Proofs

open Sys2Proof.Machine Sys2Proof.Safety

-- Proofs one after the other: each thread of the compiler counts against the check's memory limit.
set_option Elab.async false

/-! ### The checks and the effect of a command, as functions of the command -/

/-- The operand checks that `exec` makes (R113). -/
def operandsOk (i : Instr) (s : State) : Bool :=
  match i with
  | .ldx _ ch x => s.chkCh ch && s.chkIdx x
  | .acy ch x _ => s.chkCh ch && s.chkIdx x
  | .xadd d _ => chkX d
  | .mixo x _ => s.chkIdx x
  | .bq2 _ f _ => chkBq f
  | .bq1 _ f _ => chkBq f
  | .ap _ a _ _ => chkAp a
  | .bqblk f ci co n => chkBq f && s.chkCh ci && s.chkCh co && s.chkCnt n
  | .hhmix d vs => chkV4 d && chkV4 vs
  | .rotmix d vs => chkV4 d && chkV4 vs
  | .fdnstep d _ vs => chkV4 d && chkV4 vs
  | .bfly xa xb xm inv =>
    chkX xm && chkMode inv && decide ((s.getX xa).toNat < s.cfg.pvN) && decide ((s.getX xb).toNat < s.cfg.pvN) &&
      decide ((s.getX xm).toNat < s.cfg.half)
  | .fft inv => chkMode inv
  | .pshblk ci co n => s.chkCh ci && s.chkCh co && s.chkCnt n
  | .envlink _ x => s.chkIdx x
  | .cmpblk n => s.chkCnt n
  | _ => true

/-- Does `exec` check the device (R258)? -/
def checksDevice (i : Instr) : Bool :=
  match i with
  | .rdwr _ _ _ => true
  | .rdrd _ _ _ => true
  | .rdrtw _ _ _ _ _ => true
  | .ap _ _ _ _ => true
  | .fdnstep _ _ _ => true
  | _ => false

/-- The state changes of a command whose checks pass, before step 6 of R112. -/
def effect (i : Instr) (s : State) : State :=
  match i with
  | .nop => s
  | .init => s.initialise
  | .devupd => s.deviceUpdate
  | .commit => s.commitParams
  | .ldx d ch x => s.setV d (s.xbufAt (s.blockIndex ch (s.getX x).toNat))
  | .acy ch x vs => s.accumY ch (s.getX x).toNat (s.getV vs).toInt
  | .xadd d imm => s.setX d (wrapWord ((s.getX d).toNat + imm))
  | .mixo x vs => iter (s.parU pMNch) (State.mixChannel (s.getX x).toNat (s.getV vs).toInt) s
  | .rdwr line x vs => s.ringWrite line (s.getX x) (s.getV vs)
  | .rdrd d line x => s.setV d (s.ringRead line (s.getX x))
  | .rdrtw d line x q vs => (s.ringWrite line (s.getX x) (s.getV vs)).setV d (s.ringRead line (s.getX x - s.getX q))
  | .bq2 d f vs => .putResult d (bq2Step f (s.getV vs).toInt s)
  | .bq1 d f vs => .putResult d (bq1Step f (s.getV vs).toInt s)
  | .ap d a x vs => .putResult d (apStep a (s.getX x) (s.getV vs).toInt s)
  | .bqblk f ci co n => iter n (bqBlockSample f ci co) s
  | .hhmix d vs => s.putLanes d (householder (s.lanes vs))
  | .rotmix d vs => s.putLanes d (rotation (s.parQ pMixX) (s.parQ pMixY) (s.lanes vs))
  | .fdnstep d x vs => fdnEffect d x vs s
  | .fftbrev => bitReversal s
  | .bfly xa xb xm inv => butterfly (inv == 1) (s.getX xa).toNat (s.getX xb).toNat (s.getX xm).toNat s
  | .fft inv => fftRun (inv == 1) s
  | .pvwin => windowFrame s
  | .pvana => analyseFrame s
  | .pvshift => shiftFrame s
  | .pvsyn => synthFrame s
  | .pvola => overlapFrame s
  | .pshblk ci co n => iter n (pitchSample ci co) s
  | .envlink d x => .putLevel d (linkStep (s.getX x).toNat s)
  | .envrms d vs => .putLevel d (rmsStep (s.getV vs).toInt s)
  | .envfol d vs => .putLevel d (followStep (s.getV vs).toInt s)
  | .envgain d vs => .putLevel d (gainStep (s.getV vs).toInt s)
  | .cmpblk n => iter n compressSample s

/-- Every command but DEVUPD is its checks and its effect (R112). -/
theorem exec_eq_runCommand {i : Instr} (h : i ≠ .devupd) (s : State) :
    exec i s = runCommand i (operandsOk i s) (checksDevice i) (effect i) s := by
  cases i with
  | devupd => exact absurd rfl h
  | _ => rfl

theorem exec_devupd (s : State) :
    exec .devupd s =
      if s.allocFits then .next (effect .devupd s).complete else .next (s.raise .alloc (encode .devupd)) := by
  show execDevupd s = _
  unfold execDevupd
  split
  · exact runCommand_ok rfl (by simp)
  · rfl

/-- The checks of `exec` are the conditions of R253. -/
theorem operandsOk_iff (i : Instr) (s : State) : operandsOk i s = true ↔ operandsExist i s := by
  cases i with
  | bfly xa xb xm inv =>
    simp only [operandsOk, operandsExist, chkX, chkMode, Bool.and_eq_true, decide_eq_true_eq, and_assoc]
    exact Iff.rfl
  | _ =>
    simp [operandsOk, operandsExist, State.chkCh, State.chkIdx, chkX, chkBq, chkAp, chkV4, chkMode, State.chkCnt,
      and_assoc]

theorem operandsOk_eq_false_iff (i : Instr) (s : State) : operandsOk i s = false ↔ ¬ operandsExist i s := by
  rw [← operandsOk_iff, Bool.not_eq_true]

theorem checksDevice_iff (i : Instr) : checksDevice i = true ↔ touchesLine i := by
  cases i <;> simp [checksDevice, touchesLine]

/-- A command whose checks pass completes with its effect. -/
theorem exec_accepted {i : Instr} {s : State} (ho : operandsExist i s) (hl : touchesLine i → s.devok = true)
    (hd : i = .devupd → s.allocFits = true) : exec i s = .next (effect i s).complete := by
  by_cases h : i = .devupd
  · subst h
    rw [exec_devupd, if_pos (hd rfl)]
  · rw [exec_eq_runCommand h]
    exact runCommand_ok ((operandsOk_iff i s).mpr ho) fun hc => hl ((checksDevice_iff i).mp hc)

/-- A command that neither touches a line nor is DEVUPD needs only its operands. -/
theorem exec_of_operands {i : Instr} {s : State} (ho : operandsExist i s) (hc : checksDevice i = false)
    (hd : i ≠ .devupd) : exec i s = .next (effect i s).complete :=
  exec_accepted ho (fun h => absurd ((checksDevice_iff i).mpr h) (by simp [hc])) fun h => absurd h hd

theorem exec_bad_operand {i : Instr} {s : State} (ho : ¬ operandsExist i s) :
    exec i s = .next (s.raise .operand (encode i)) := by
  have h : i ≠ .devupd := by rintro rfl; exact ho trivial
  rw [exec_eq_runCommand h]
  exact runCommand_operand ((operandsOk_eq_false_iff i s).mpr ho)

theorem exec_no_device {i : Instr} {s : State} (ho : operandsExist i s) (hl : touchesLine i) (hd : s.devok = false) :
    exec i s = .next (s.raise .nodev (encode i)) := by
  have h : i ≠ .devupd := by rintro rfl; exact hl
  rw [exec_eq_runCommand h]
  exact runCommand_nodev ((operandsOk_iff i s).mpr ho) ((checksDevice_iff i).mpr hl) hd

/-- All that a command can do: be rejected with an error record, or complete its effect after its checks. -/
theorem exec_cases (i : Instr) (s : State) :
    (∃ e info, exec i s = .next (s.raise e info)) ∨
    (operandsExist i s ∧ (touchesLine i → s.devok = true) ∧ (i = .devupd → s.allocFits = true) ∧
      exec i s = .next (effect i s).complete) := by
  by_cases ho : operandsExist i s
  · by_cases hl : touchesLine i → s.devok = true
    · by_cases hd : i = .devupd → s.allocFits = true
      · exact .inr ⟨ho, hl, hd, exec_accepted ho hl hd⟩
      · obtain ⟨rfl, hf⟩ := Classical.not_imp.mp hd
        exact .inl ⟨_, _, by rw [exec_devupd, if_neg hf]⟩
    · obtain ⟨ht, hf⟩ := Classical.not_imp.mp hl
      exact .inl ⟨_, _, exec_no_device ho ht (by simpa using hf)⟩
  · exact .inl ⟨_, _, exec_bad_operand ho⟩

/-- What a command can leave: the error record alone, or its completed effect. -/
theorem exec_next_cases {i : Instr} {s t : State} (h : exec i s = .next t) :
    (∃ e info, t = s.raise e info) ∨
    (operandsExist i s ∧ (touchesLine i → s.devok = true) ∧ (i = .devupd → s.allocFits = true) ∧
      t = (effect i s).complete) := by
  rcases exec_cases i s with ⟨e, info, hr⟩ | ⟨ho, hl, hd, hc⟩
  · exact .inl ⟨e, info, by rw [hr] at h; injection h with h; exact h.symm⟩
  · exact .inr ⟨ho, hl, hd, by rw [hc] at h; injection h with h; exact h.symm⟩

/-- Every command has a next state. -/
theorem exec_total (i : Instr) (s : State) : ∃ t, exec i s = .next t := by
  rcases exec_cases i s with ⟨_, _, h⟩ | ⟨_, _, _, h⟩ <;> exact ⟨_, h⟩

/-! ### What is noted in FLAGS -/

/-- FLAGS after `t` are those of `s`, with SAT set if `b`. -/
def Noted (b : Bool) (s t : State) : Prop := t.flags = s.flags ||| (if b then flagBit 0 else 0)

theorem noted_noteSat (b : Bool) (s : State) : Noted b s (s.noteSat b) := rfl

theorem noted_of_flags_eq {s t : State} (h : t.flags = s.flags) : Noted false s t := by
  simp [Noted, h]

theorem Noted.trans {b c : Bool} {s t u : State} (h : Noted b s t) (g : Noted c t u) : Noted (b || c) s u := by
  unfold Noted at *
  rw [g, h]
  cases b <;> cases c <;> simp [BitVec.or_assoc]

theorem Noted.congr {b c : Bool} {s t : State} (h : Noted b s t) (e : b = c) : Noted c s t := e ▸ h

theorem Noted.errorBits {b : Bool} {s t : State} (h : Noted b s t) : errorBitsKept s t := fun k hk => by
  have := State.errorBits_noteSat s b k hk
  rwa [show (s.noteSat b).flags = t.flags from h.symm] at this

theorem Noted.sat {b : Bool} {s t : State} (h : Noted b s t) : t.sat = (s.sat || b) := by
  have := State.sat_noteSat s b
  rwa [State.sat, show (s.noteSat b).flags = t.flags from h.symm] at this

/-- A loop notes what any of its turns notes. -/
theorem Noted.iter {n : Nat} {f : Nat → State → State} {c : Nat → Bool} {s : State}
    (h : ∀ k, k < n → Noted (c k) (iter k f s) (f k (iter k f s))) :
    Noted ((List.range n).any c) s (iter n f s) := by
  induction n with
  | zero => exact noted_of_flags_eq rfl
  | succ n ih =>
    have := (ih fun k hk => h k (Nat.lt_succ_of_lt hk)).trans (h n (Nat.lt_succ_self n))
    rw [List.range_succ, List.any_append, iter_succ]
    simpa using this

theorem any_range_iff {n : Nat} {c : Nat → Bool} : (List.range n).any c = true ↔ ∃ k, k < n ∧ c k = true := by
  simp [List.any_eq_true, List.mem_range]

/-- `t` differs from `s` at most by a set SAT in FLAGS. -/
def MayNote (s t : State) : Prop := ∃ b, Noted b s t

theorem Noted.may {b : Bool} {s t : State} (h : Noted b s t) : MayNote s t := ⟨b, h⟩

theorem MayNote.refl (s : State) : MayNote s s := ⟨false, noted_of_flags_eq rfl⟩

theorem MayNote.trans {s t u : State} (h : MayNote s t) (g : MayNote t u) : MayNote s u := by
  obtain ⟨b, hb⟩ := h
  obtain ⟨c, hc⟩ := g
  exact ⟨_, hb.trans hc⟩

theorem MayNote.iter {n : Nat} {f : Nat → State → State} {s : State} (h : ∀ k b, MayNote b (f k b)) :
    MayNote s (Machine.iter n f s) :=
  iter_inv (fun _ b => MayNote s b) n f s (.refl s) fun k b _ hb => hb.trans (h k b)

theorem MayNote.errorBits {s t : State} (h : MayNote s t) : errorBitsKept s t := h.choose_spec.errorBits

theorem MayNote.sat {s t : State} (h : MayNote s t) (hs : s.sat = true) : t.sat = true := by
  rw [h.choose_spec.sat, hs, Bool.true_or]

end Sys2Proof.Proofs
end

section
/-! # Encoding and decoding (30_encoding.md) -/

namespace Sys2Proof.Proofs

open Sys2Proof.Machine Sys2Proof.Safety

-- Proofs one after the other: each thread of the compiler counts against the check's memory limit.
set_option Elab.async false

/-! ### The fields of a word -/

/-- The parts of a well-formed command's word are the command's (R110). -/
theorem opcodeKept (i : Instr) : Laws.OpcodeKept.Statement i := by
  cases i with
  | nop => exact Laws.OpcodeKept.nop
  | init => exact Laws.OpcodeKept.init
  | devupd => exact Laws.OpcodeKept.devupd
  | commit => exact Laws.OpcodeKept.commit
  | ldx d ch x => exact Laws.OpcodeKept.ldx d ch x
  | acy ch x vs => exact Laws.OpcodeKept.acy ch x vs
  | xadd d imm => exact Laws.OpcodeKept.xadd d imm
  | mixo x vs => exact Laws.OpcodeKept.mixo x vs
  | rdwr line x vs => exact Laws.OpcodeKept.rdwr line x vs
  | rdrd d line x => exact Laws.OpcodeKept.rdrd d line x
  | rdrtw d line x q vs => exact Laws.OpcodeKept.rdrtw d line x q vs
  | bq2 d f vs => exact Laws.OpcodeKept.bq2 d f vs
  | bq1 d f vs => exact Laws.OpcodeKept.bq1 d f vs
  | ap d a x vs => exact Laws.OpcodeKept.ap d a x vs
  | bqblk f ci co n => exact Laws.OpcodeKept.bqblk f ci co n
  | hhmix d vs => exact Laws.OpcodeKept.hhmix d vs
  | rotmix d vs => exact Laws.OpcodeKept.rotmix d vs
  | fdnstep d x vs => exact Laws.OpcodeKept.fdnstep d x vs
  | fftbrev => exact Laws.OpcodeKept.fftbrev
  | bfly xa xb xm inv => exact Laws.OpcodeKept.bfly xa xb xm inv
  | fft inv => exact Laws.OpcodeKept.fft inv
  | pvwin => exact Laws.OpcodeKept.pvwin
  | pvana => exact Laws.OpcodeKept.pvana
  | pvshift => exact Laws.OpcodeKept.pvshift
  | pvsyn => exact Laws.OpcodeKept.pvsyn
  | pvola => exact Laws.OpcodeKept.pvola
  | pshblk ci co n => exact Laws.OpcodeKept.pshblk ci co n
  | envlink d x => exact Laws.OpcodeKept.envlink d x
  | envrms d vs => exact Laws.OpcodeKept.envrms d vs
  | envfol d vs => exact Laws.OpcodeKept.envfol d vs
  | envgain d vs => exact Laws.OpcodeKept.envgain d vs
  | cmpblk n => exact Laws.OpcodeKept.cmpblk n

theorem bitField_lt (w lo n : Nat) : bitField w lo n < 2 ^ n := Nat.mod_lt _ (Nat.two_pow_pos n)

/-- A field below bit 16 is that field of the low half. -/
theorem bitField_of_low (w : Nat) :
    bitField w 13 3 = bitField (bitField w 0 16) 13 3 ∧ bitField w 10 3 = bitField (bitField w 0 16) 10 3 ∧
    bitField w 5 5 = bitField (bitField w 0 16) 5 5 ∧ bitField w 0 5 = bitField (bitField w 0 16) 0 5 ∧
    bitField w 11 5 = bitField (bitField w 0 16) 11 5 ∧ bitField w 0 11 = bitField (bitField w 0 16) 0 11 := by
  simp only [bitField]
  omega

/-- The fields of the low half in format R. -/
theorem bitField_lowR {xa xb n5 : Nat} (ha : xa < 8) (hb : xb < 8) (hn : n5 < 32) :
    bitField (lowR xa xb n5) 13 3 = xa ∧ bitField (lowR xa xb n5) 10 3 = xb ∧
    bitField (lowR xa xb n5) 5 5 = n5 ∧ bitField (lowR xa xb n5) 0 5 = 0 := by
  simp only [bitField, lowR]
  omega

/-- The fields of the low half in format K. -/
theorem bitField_lowK {n5 cnt : Nat} (hn : n5 < 32) (hc : cnt < 2048) :
    bitField (lowK n5 cnt) 11 5 = n5 ∧ bitField (lowK n5 cnt) 0 11 = cnt := by
  simp only [bitField, lowK]
  omega

/-- A word is its opcode byte, its fields A and B, and its low half. -/
theorem word_eq_parts {w : Nat} (h : w < 4294967296) :
    bitField w 24 8 * 0x1000000 + bitField w 20 4 * 0x100000 + bitField w 16 4 * 0x10000 + bitField w 0 16 = w := by
  simp only [bitField]
  omega

/-- The low half is its format R fields, and its format K fields. -/
theorem low_eq_formats (w : Nat) :
    bitField w 0 16 = lowR (bitField w 13 3) (bitField w 10 3) (bitField w 5 5) + bitField w 0 5 ∧
    bitField w 0 16 = lowK (bitField w 11 5) (bitField w 0 11) := by
  simp only [bitField, lowR, lowK]
  omega

theorem sext16_imm {imm : Int} (hl : -32768 ≤ imm) (hh : imm ≤ 32767) : sext16 (imm % 65536).toNat = imm := by
  unfold sext16
  split <;> omega

theorem imm_sext16 {n : Nat} (h : n < 65536) :
    fitsImm (sext16 n) = true ∧ (sext16 n % 65536).toNat = n := by
  unfold sext16 fitsImm
  split <;> simp <;> omega

/-! ### Decoding an assembled word -/

theorem accept_eq_ok {c : Bool} {m : String} {i j : Instr} : accept c m i = .ok j ↔ c = true ∧ i = j := by
  cases c <;> simp [accept]

theorem decodeNat_encodeNat (i : Instr) (h : i.wellFormed = true) : decodeNat (encodeNat i) = .ok i := by
  obtain ⟨-, hop, ha, hb, hlow⟩ := opcodeKept i h
  obtain ⟨h13, h10, h5, h0, h11, hc⟩ := bitField_of_low (encodeNat i)
  rw [hlow] at h13 h10 h5 h0 h11 hc
  unfold decodeNat
  rw [hop, ha, hb, hlow, h13, h10, h5, h0, h11, hc]
  cases i <;>
    simp only [Instr.wellFormed, Bool.and_eq_true, fitsA, fitsX, fitsN5, fitsCnt, fitsImm, decide_eq_true_eq] at h <;>
    simp [Instr.opcode, Instr.fields, accept_eq_ok, bitField_lowR, bitField_lowK, sext16_imm, h]

theorem encode_toNat (i : Instr) (h : i.wellFormed = true) : (encode i).toNat = encodeNat i := by
  rw [encode, BitVec.toNat_ofNat, Nat.mod_eq_of_lt (opcodeKept i h).1]

/-! ### Assembling the fields of an accepted word -/

/-- A command with the parts of a word assembles to the word. -/
theorem encodeNat_of_parts {w : Nat} {i : Instr} (hw : w < 4294967296) (hop : i.opcode = bitField w 24 8)
    (hf : i.fields = (bitField w 20 4, bitField w 16 4, bitField w 0 16)) : encodeNat i = w := by
  unfold encodeNat
  rw [hop, hf]
  exact word_eq_parts hw

/-- An accepted word's command has fields that fit, and the word's parts. -/
theorem decodeNat_eq_ok {w : Nat} {i : Instr} (h : decodeNat w = .ok i) :
    i.wellFormed = true ∧ i.opcode = bitField w 24 8 ∧
      i.fields = (bitField w 20 4, bitField w 16 4, bitField w 0 16) := by
  have hR := (low_eq_formats w).1
  have hK := (low_eq_formats w).2
  have ha := bitField_lt w 20 4
  have hb := bitField_lt w 16 4
  have hxa := bitField_lt w 13 3
  have hxb := bitField_lt w 10 3
  have hn := bitField_lt w 5 5
  have hk := bitField_lt w 11 5
  have hc := bitField_lt w 0 11
  have hi := imm_sext16 (bitField_lt w 0 16)
  simp only [lowR, lowK] at hR hK
  unfold decodeNat at h
  dsimp only at h
  split at h
  case h_33 => cases h
  all_goals
    obtain ⟨hz, rfl⟩ := accept_eq_ok.mp h
    simp only [Bool.and_eq_true, beq_iff_eq] at hz
    simp only [Instr.wellFormed, Instr.opcode, Instr.fields, fitsA, fitsX, fitsN5, fitsCnt, lowR, lowK, hi,
      Bool.and_eq_true, decide_eq_true_eq, Prod.mk.injEq, true_and, and_true]
    omega

/-- Settles O1: assembling and taking apart, command by command. -/
theorem decodingAndEncodingAgree : Obligations.DecodingAndEncodingAgree := by
  refine ⟨fun i h => ?_, fun w i h => ?_⟩
  · rw [decode, encode_toNat i h, decodeNat_encodeNat i h]
  · obtain ⟨hwf, hop, hf⟩ := decodeNat_eq_ok h
    exact ⟨hwf, BitVec.eq_of_toNat_eq (by rw [encode_toNat i hwf, encodeNat_of_parts w.isLt hop hf])⟩

/-- Settles O3, by running the decoder on each word. -/
theorem exampleWordsDecodeAsTheSpecSays : Obligations.ExampleWordsDecodeAsTheSpecSays :=
  ⟨rfl, rfl, rfl, rfl, rfl, rfl, rfl, rfl, rfl, rfl⟩

end Sys2Proof.Proofs
end

section
/-! # The decoder and the masks of the opcode map (30_encoding.md R107) -/

namespace Sys2Proof.Proofs

open Sys2Proof.Machine Sys2Proof.Safety

-- Proofs one after the other: each thread of the compiler counts against the check's memory limit.
set_option Elab.async false

/-! ### A mask that takes whole fields -/

/-- A word from its fields; the field XB is cut at bit 11, where the field of format K ends (R101). -/
def pack (op a b xa xh xl n5 z5 : Nat) : Nat :=
  ((((((op * 2 ^ 4 + a) * 2 ^ 4 + b) * 2 ^ 3 + xa) * 2 ^ 2 + xh) * 2 ^ 1 + xl) * 2 ^ 5 + n5) * 2 ^ 5 + z5

/-- All `k` bits of a field, or none. -/
def fieldMask (c : Bool) (k : Nat) : Nat := if c then 2 ^ k - 1 else 0

theorem and_mul_two_pow_add {k x y : Nat} (a b : Nat) (hx : x < 2 ^ k) (hy : y < 2 ^ k) :
    (a * 2 ^ k + x) &&& (b * 2 ^ k + y) = (a &&& b) * 2 ^ k + (x &&& y) := by
  have hq : ∀ c z, z < 2 ^ k → (c * 2 ^ k + z) / 2 ^ k = c ∧ (c * 2 ^ k + z) % 2 ^ k = z := fun c z hz =>
    ⟨by rw [Nat.mul_comm, Nat.mul_add_div (Nat.two_pow_pos k), Nat.div_eq_of_lt hz, Nat.add_zero],
      by rw [Nat.mul_comm, Nat.mul_add_mod, Nat.mod_eq_of_lt hz]⟩
  have hd := Nat.and_div_two_pow (a := a * 2 ^ k + x) (b := b * 2 ^ k + y) (n := k)
  have hm := Nat.and_mod_two_pow (a := a * 2 ^ k + x) (b := b * 2 ^ k + y) (n := k)
  rw [(hq a x hx).1, (hq b y hy).1] at hd
  rw [(hq a x hx).2, (hq b y hy).2] at hm
  rw [← hd, ← hm, Nat.div_add_mod']

theorem fieldMask_lt (c : Bool) (k : Nat) : fieldMask c k < 2 ^ k := by
  have := Nat.two_pow_pos k
  cases c <;> simp [fieldMask]

theorem and_fieldMask {x k : Nat} (c : Bool) (hx : x < 2 ^ k) : x &&& fieldMask c k = if c then x else 0 := by
  cases c
  · simp [fieldMask]
  · simp [fieldMask, Nat.and_two_pow_sub_one_eq_mod, Nat.mod_eq_of_lt hx]

/-- A word and a mask of whole fields: the opcode byte and the fields the mask takes. -/
theorem and_pack {op a b xa xh xl n5 z5 : Nat} (c1 c2 c3 c4 c5 c6 c7 : Bool) (hop : op < 2 ^ 8) (ha : a < 2 ^ 4)
    (hb : b < 2 ^ 4) (hxa : xa < 2 ^ 3) (hxh : xh < 2 ^ 2) (hxl : xl < 2 ^ 1) (hn : n5 < 2 ^ 5) (hz : z5 < 2 ^ 5) :
    pack op a b xa xh xl n5 z5 &&&
      pack (2 ^ 8 - 1) (fieldMask c1 4) (fieldMask c2 4) (fieldMask c3 3) (fieldMask c4 2) (fieldMask c5 1)
        (fieldMask c6 5) (fieldMask c7 5) =
    pack op (if c1 then a else 0) (if c2 then b else 0) (if c3 then xa else 0) (if c4 then xh else 0)
      (if c5 then xl else 0) (if c6 then n5 else 0) (if c7 then z5 else 0) := by
  unfold pack
  rw [and_mul_two_pow_add _ _ hz (fieldMask_lt _ _), and_mul_two_pow_add _ _ hn (fieldMask_lt _ _),
    and_mul_two_pow_add _ _ hxl (fieldMask_lt _ _), and_mul_two_pow_add _ _ hxh (fieldMask_lt _ _),
    and_mul_two_pow_add _ _ hxa (fieldMask_lt _ _), and_mul_two_pow_add _ _ hb (fieldMask_lt _ _),
    and_mul_two_pow_add _ _ ha (fieldMask_lt _ _), Nat.and_two_pow_sub_one_eq_mod, Nat.mod_eq_of_lt hop,
    and_fieldMask _ hz, and_fieldMask _ hn, and_fieldMask _ hxl, and_fieldMask _ hxh, and_fieldMask _ hxa,
    and_fieldMask _ hb, and_fieldMask _ ha]

theorem eq_pack {w : Nat} (h : w < 4294967296) :
    w = pack (bitField w 24 8) (bitField w 20 4) (bitField w 16 4) (bitField w 13 3) (bitField w 11 2)
      (bitField w 10 1) (bitField w 5 5) (bitField w 0 5) := by
  simp only [bitField, pack]
  omega

/-- A word that is an opcode byte with every other field 0. -/
theorem pack_eq_iff {op o a b xa xh xl n5 z5 : Nat} (ha : a < 2 ^ 4) (hb : b < 2 ^ 4) (hxa : xa < 2 ^ 3)
    (hxh : xh < 2 ^ 2) (hxl : xl < 2 ^ 1) (hn : n5 < 2 ^ 5) (hz : z5 < 2 ^ 5) :
    pack op a b xa xh xl n5 z5 = pack o 0 0 0 0 0 0 0 ↔
      op = o ∧ a = 0 ∧ b = 0 ∧ xa = 0 ∧ xh = 0 ∧ xl = 0 ∧ n5 = 0 ∧ z5 = 0 := by
  simp only [pack]
  omega

/-! ### The rows of the map -/

/-- The opcode byte is the row's, and the fields that the row's mask takes are zero. -/
def acceptedBy (r : OpcodeRow) (w : Nat) : Prop :=
  bitField w 24 8 = r.opcode ∧
  (r.mask.getLsbD 20 = true → bitField w 20 4 = 0) ∧ (r.mask.getLsbD 16 = true → bitField w 16 4 = 0) ∧
  (r.mask.getLsbD 13 = true → bitField w 13 3 = 0) ∧ (r.mask.getLsbD 11 = true → bitField w 11 2 = 0) ∧
  (r.mask.getLsbD 10 = true → bitField w 10 1 = 0) ∧ (r.mask.getLsbD 5 = true → bitField w 5 5 = 0) ∧
  (r.mask.getLsbD 0 = true → bitField w 0 5 = 0)

/-- The row's mask takes the opcode byte and whole fields, and its match is the opcode byte alone. -/
def fieldAligned (r : OpcodeRow) : Bool :=
  r.mask.toNat == pack (2 ^ 8 - 1) (fieldMask (r.mask.getLsbD 20) 4) (fieldMask (r.mask.getLsbD 16) 4)
    (fieldMask (r.mask.getLsbD 13) 3) (fieldMask (r.mask.getLsbD 11) 2) (fieldMask (r.mask.getLsbD 10) 1)
    (fieldMask (r.mask.getLsbD 5) 5) (fieldMask (r.mask.getLsbD 0) 5) &&
  r.value.toNat == pack r.opcode 0 0 0 0 0 0 0

theorem opcodeMap_fieldAligned : ∀ r ∈ opcodeMap, fieldAligned r = true := by decide +kernel

theorem opcodeMap_unique : ∀ r ∈ opcodeMap, ∀ q ∈ opcodeMap, r.opcode = q.opcode → r = q := by decide +kernel

theorem and_mask_iff {r : OpcodeRow} (h : r ∈ opcodeMap) (w : Word) :
    w &&& r.mask = r.value ↔ acceptedBy r w.toNat := by
  have hfa := opcodeMap_fieldAligned r h
  simp only [fieldAligned, Bool.and_eq_true, beq_iff_eq] at hfa
  obtain ⟨hm, hv⟩ := hfa
  have hand := and_pack (r.mask.getLsbD 20) (r.mask.getLsbD 16) (r.mask.getLsbD 13) (r.mask.getLsbD 11)
    (r.mask.getLsbD 10) (r.mask.getLsbD 5) (r.mask.getLsbD 0) (bitField_lt w.toNat 24 8) (bitField_lt w.toNat 20 4)
    (bitField_lt w.toNat 16 4) (bitField_lt w.toNat 13 3) (bitField_lt w.toNat 11 2) (bitField_lt w.toNat 10 1)
    (bitField_lt w.toNat 5 5) (bitField_lt w.toNat 0 5)
  have hif : ∀ {c : Bool} {x k : Nat}, x < 2 ^ k → (if c then x else 0) < 2 ^ k := fun {c x k} h => by
    cases c
    · simp
    · simpa using h
  rw [← eq_pack w.isLt, ← hm] at hand
  rw [← BitVec.toNat_inj, BitVec.toNat_and, hand, hv, acceptedBy,
    pack_eq_iff (hif (bitField_lt w.toNat 20 4)) (hif (bitField_lt w.toNat 16 4)) (hif (bitField_lt w.toNat 13 3))
      (hif (bitField_lt w.toNat 11 2)) (hif (bitField_lt w.toNat 10 1)) (hif (bitField_lt w.toNat 5 5))
      (hif (bitField_lt w.toNat 0 5))]
  simp only [ite_eq_right_iff]

/-- The row of an opcode byte. -/
def rowOf (op : Nat) : Option OpcodeRow := opcodeMap.find? fun r => r.opcode == op

theorem rowOf_eq_some_iff {op : Nat} {r : OpcodeRow} : rowOf op = some r ↔ r ∈ opcodeMap ∧ r.opcode = op := by
  constructor
  · intro h
    exact ⟨List.mem_of_find?_eq_some h, by simpa using List.find?_some h⟩
  · rintro ⟨hr, rfl⟩
    obtain ⟨q, hq⟩ := Option.isSome_iff_exists.mp
      (List.find?_isSome.mpr ⟨r, hr, by simp⟩ : (rowOf r.opcode).isSome = true)
    have hqm := List.mem_of_find?_eq_some hq
    have hqo : q.opcode = r.opcode := by simpa using List.find?_some hq
    exact hq.trans (by rw [opcodeMap_unique q hqm r hr hqo])

theorem bitField_zero_cut (w : Nat) :
    (bitField w 10 3 = 0 ↔ bitField w 11 2 = 0 ∧ bitField w 10 1 = 0) ∧
    (bitField w 11 5 = 0 ↔ bitField w 13 3 = 0 ∧ bitField w 11 2 = 0) ∧
    (bitField w 0 16 = 0 ↔ bitField w 13 3 = 0 ∧ bitField w 11 2 = 0 ∧ bitField w 10 1 = 0 ∧ bitField w 5 5 = 0 ∧
      bitField w 0 5 = 0) := by
  simp only [bitField]
  omega

/-- A word decodes exactly when the row of its opcode byte accepts it. -/
theorem decodeNat_ok_iff (w : Nat) :
    (∃ i, decodeNat w = .ok i) ↔ ∃ r, rowOf (bitField w 24 8) = some r ∧ acceptedBy r w := by
  obtain ⟨hx, hk, hlow⟩ := bitField_zero_cut w
  unfold decodeNat
  dsimp only
  split
  case h_33 =>
    have hnone : rowOf (bitField w 24 8) = none := by
      simp only [rowOf, List.find?_eq_none, beq_iff_eq, opcodeMap, List.cons_append, List.nil_append,
        List.forall_mem_cons, List.not_mem_nil, false_imp_iff, implies_true, and_true]
      and_intros <;> (rw [eq_comm]; assumption)
    simp [hnone]
  all_goals
    rename_i hop
    simp only [accept_eq_ok, exists_and_left, exists_eq', and_true, Bool.and_eq_true, beq_iff_eq, hx, hk, hlow]
    rw [hop]
    simp [rowOf, opcodeMap, acceptedBy, hop, and_assoc]

/-- Settles O2: a word is a command exactly when the row of its opcode byte accepts it. -/
theorem decoderAcceptsExactlyTheOpcodeMap : Obligations.DecoderAcceptsExactlyTheOpcodeMap := by
  intro w
  have htop : bitField w.toNat 24 8 = w.toNat / 2 ^ 24 := Nat.mod_eq_of_lt (by have := w.isLt; omega)
  refine ⟨fun i h => ?_, fun r hr hop hand => ?_, opcodeMap_unique⟩
  · obtain ⟨r, hrow, hacc⟩ := (decodeNat_ok_iff w.toNat).mp ⟨i, h⟩
    obtain ⟨hr, hop⟩ := rowOf_eq_some_iff.mp hrow
    exact ⟨r, hr, hop.trans (decodeNat_eq_ok h).2.1.symm, by rw [← htop, hop], (and_mask_iff hr w).mpr hacc⟩
  · have hacc := (and_mask_iff hr w).mp hand
    obtain ⟨i, hi⟩ := (decodeNat_ok_iff w.toNat).mpr ⟨r, rowOf_eq_some_iff.mpr ⟨hr, hacc.1.symm⟩, hacc⟩
    exact ⟨i, hi, (decodeNat_eq_ok hi).2.1.trans hacc.1⟩

end Sys2Proof.Proofs
end

section
/-! # Arithmetic, the configuration functions and the memories (00_scope.md sections 5.3 and 6) -/

namespace Sys2Proof.Proofs

open Sys2Proof.Machine Sys2Proof.Safety

-- Proofs one after the other: each thread of the compiler counts against the check's memory limit.
set_option Elab.async false

/-! ### Rounding, saturation, absolute value -/

/-- The rounded quotient times the divisor is within half a divisor of the value (R2). -/
theorem rnd_bounds (k : Nat) (v : Int) (hk : 1 ≤ k) :
    2 * v - 2 ^ k < 2 * rnd k v * 2 ^ k ∧ 2 * rnd k v * 2 ^ k ≤ 2 * v + 2 ^ k := by
  obtain ⟨j, rfl⟩ : ∃ j, k = j + 1 := ⟨k - 1, by omega⟩
  have hpos : (0 : Int) < 2 ^ (j + 1) := by positivity
  have hlo := Int.ediv_mul_le (v + 2 ^ j) (ne_of_gt hpos)
  have hhi := Int.lt_ediv_add_one_mul_self (v + 2 ^ j) hpos
  have hr : rnd (j + 1) v = (v + 2 ^ j) / 2 ^ (j + 1) := by simp [rnd]
  rw [hr, mul_assoc]
  have h2 : (2 : Int) ^ (j + 1) = 2 * 2 ^ j := pow_succ' 2 j
  rw [add_mul, one_mul] at hhi
  omega

theorem rnd24_eq (v : Int) : rnd 24 v = (v + 8388608) / 16777216 := rfl

theorem rnd1_eq (v : Int) : rnd 1 v = (v + 1) / 2 := rfl

theorem clamp32_eq (v : Int) : clamp32 v = max (-2147483648) (min 2147483647 v) := rfl

theorem toInt_ofInt_word {v : Int} (hlo : -2147483648 ≤ v) (hhi : v ≤ 2147483647) : (BitVec.ofInt 32 v).toInt = v := by
  rw [BitVec.toInt_ofInt, Int.bmod_eq_of_le] <;> omega

theorem clamp32_mem (v : Int) : -2147483648 ≤ clamp32 v ∧ clamp32 v ≤ 2147483647 := by
  rw [clamp32_eq]
  omega

theorem toInt_sat32 (v : Int) : (sat32 v).toInt = clamp32 v :=
  toInt_ofInt_word (clamp32_mem v).1 (clamp32_mem v).2

theorem toInt_sat32_of_mem {v : Int} (hlo : -2147483648 ≤ v) (hhi : v ≤ 2147483647) : (sat32 v).toInt = v := by
  rw [toInt_sat32, clamp32_eq]
  omega

theorem clips_iff (v : Int) : clips v = true ↔ v < -2147483648 ∨ 2147483647 < v := by
  simp [clips]

theorem clips_eq_false_iff (v : Int) : clips v = false ↔ -2147483648 ≤ v ∧ v ≤ 2147483647 := by
  simp [clips]

theorem absInt_eq_abs (v : Int) : absInt v = |v| := by
  unfold absInt
  split
  · next h => rw [abs_of_neg h]
  · next h => rw [abs_of_nonneg (by omega)]

theorem word_toInt_mem (w : Word) : -2147483648 ≤ w.toInt ∧ w.toInt ≤ 2147483647 := by
  have hlo := BitVec.le_toInt w
  have hhi := BitVec.toInt_lt (x := w)
  constructor <;> omega

@[simp] theorem sat32_toInt_word (w : Word) : sat32 w.toInt = w :=
  BitVec.eq_of_toInt_eq (toInt_sat32_of_mem (word_toInt_mem w).1 (word_toInt_mem w).2)

@[simp] theorem clips_word (w : Word) : clips w.toInt = false :=
  (clips_eq_false_iff _).mpr (word_toInt_mem w)

/-- Settles O26, part by part. -/
theorem roundingSaturationAndAbsoluteValue : Obligations.RoundingSaturationAndAbsoluteValue := by
  refine ⟨rnd_bounds, fun v => ⟨?_, ?_⟩, fun s b => ⟨State.sat_noteSat s b, (noted_noteSat b s).errorBits⟩, fun w => ?_⟩
  · rw [toInt_sat32, clamp32_eq]
    split <;> omega
  · rw [clips_iff, toInt_sat32, clamp32_eq]
    omega
  · have hmem := word_toInt_mem w
    rw [clips_iff, clips_eq_false_iff, toInt_sat32, clamp32_eq, absInt_eq_abs]
    rcases abs_cases w.toInt with ⟨h, _⟩ | ⟨h, _⟩ <;> rw [h] <;> omega

/-- Settles O27, from the remainder that `wrap32s` takes. -/
theorem unwrapGivesTheRepresentativeAboveMinusHalf : Obligations.UnwrapGivesTheRepresentativeAboveMinusHalf := by
  intro v
  have hdiv : wrap32s v = v + -((v + 2147483648) / 4294967296) * 4294967296 := by
    unfold wrap32s
    omega
  unfold unwrap
  split
  · next h => exact ⟨⟨-((v + 2147483648) / 4294967296) + 1, by omega⟩, by omega, by omega⟩
  · next h =>
    refine ⟨⟨_, hdiv⟩, ?_, ?_⟩ <;> unfold wrap32s at h ⊢ <;> omega

/-! ### Powers of two -/

theorem nextPow2_leastPow2 (v : Nat) : LeastPow2 v (nextPow2 v) := by
  unfold nextPow2
  split
  · next h => exact ⟨⟨0, rfl⟩, h, fun k _ => Nat.one_le_two_pow⟩
  · next h =>
    have hlt : v - 1 < 2 ^ (Nat.log2 (v - 1) + 1) := Nat.lt_log2_self
    refine ⟨⟨_, rfl⟩, by omega, fun k hk => Nat.pow_le_pow_right (by omega) ?_⟩
    exact (Nat.log2_lt (by omega)).mpr (by omega)

theorem leastPow2_unique {v m n : Nat} (hm : LeastPow2 v m) (hn : LeastPow2 v n) : m = n := by
  obtain ⟨⟨j, rfl⟩, hvm, hm⟩ := hm
  obtain ⟨⟨k, rfl⟩, hvn, hn⟩ := hn
  exact Nat.le_antisymm (hm k hvn) (hn j hvm)

/-- Settles O28. -/
theorem nextPowerOfTwoIsTheLeastOne : Obligations.NextPowerOfTwoIsTheLeastOne :=
  fun v _ _ => nextPow2_leastPow2 v

/-! ### The memories -/

/-- Settles O30: the laws of `write` and `zeroFill`. -/
theorem memoryWordsReadAsLastWritten : Obligations.MemoryWordsReadAsLastWritten := fun m a b n v free =>
  ⟨m.read_write a b v free, m.read_zeroFill n b free, fun h => ⟨m.wf_write a v h, m.wf_zeroFill n h⟩⟩

/-! ### COST and SINT -/

theorem clampTo_mem {lo hi : Int} (v : Int) (h : lo ≤ hi) : lo ≤ clampTo lo hi v ∧ clampTo lo hi v ≤ hi := by
  unfold clampTo
  omega

theorem abs_costAt_le (q : Nat) : |costAt q| ≤ 16777216 := by
  unfold costAt
  split
  · decide
  · split
    · decide
    · exact abs_le.mpr (clampTo_mem _ (by decide))

theorem abs_sintAt_le (q : Nat) : |sintAt q| ≤ 16777216 := by
  unfold sintAt
  split
  · decide
  · split
    · decide
    · exact abs_le.mpr (clampTo_mem _ (by decide))

theorem abs_cost_le (p : Word) : |cost p| ≤ 16777216 := by
  unfold cost
  split
  · decide
  · exact abs_costAt_le _

theorem abs_sint_le (p : Word) : |sint p| ≤ 16777216 := by
  unfold sint
  split
  · decide
  · split
    · rw [abs_neg]; exact abs_sintAt_le _
    · exact abs_sintAt_le _

theorem cost_anchors : cost 0 = 16777216 ∧ cost 0x40000000 = 0 ∧ cost 0x80000000 = -16777216 ∧ cost 0xC0000000 = 0 :=
  ⟨rfl, rfl, rfl, rfl⟩

theorem sint_anchors : sint 0 = 0 ∧ sint 0x40000000 = 16777216 ∧ sint 0x80000000 = 0 ∧ sint 0xC0000000 = -16777216 :=
  ⟨rfl, rfl, rfl, rfl⟩

theorem toInt_ne_minQ {p : Word} (h : p ≠ 0x80000000) : p.toInt ≠ -2147483648 := fun he =>
  h (BitVec.eq_of_toInt_eq (by rw [he]; rfl))

theorem toInt_neg_word {p : Word} (h : p ≠ 0x80000000) : (-p).toInt = -p.toInt :=
  BitVec.toInt_neg_of_ne_intMin h

theorem cost_neg {p : Word} (h : p ≠ 0x80000000) : cost (-p) = cost p := by
  have hp := toInt_ne_minQ h
  have hmem := word_toInt_mem p
  unfold cost
  rw [toInt_neg_word h, if_neg hp, if_neg (show -p.toInt ≠ -2147483648 by omega), Int.natAbs_neg]

theorem sint_neg {p : Word} (h : p ≠ 0x80000000) : sint (-p) = -sint p := by
  have hp := toInt_ne_minQ h
  have hmem := word_toInt_mem p
  unfold sint
  rw [toInt_neg_word h, if_neg hp, if_neg (show -p.toInt ≠ -2147483648 by omega), Int.natAbs_neg]
  rcases lt_trichotomy p.toInt 0 with hlt | he | hgt
  · rw [if_neg (by omega), if_pos hlt, neg_neg]
  · simp [he, sintAt]
  · rw [if_pos (by omega), if_neg (by omega)]

/-! ### MAGQ and ATAN2T -/

theorem toInt_sat32_absInt (a : Word) : (sat32 (absInt a.toInt)).toInt = min |a.toInt| 2147483647 := by
  have := abs_nonneg a.toInt
  rw [toInt_sat32, clamp32_eq, absInt_eq_abs]
  omega

theorem magq_nonneg (re im : Word) : 0 ≤ (magq re im).toInt := by
  unfold magq
  split
  · rw [toInt_sat32_absInt]; exact le_min (abs_nonneg _) (by decide)
  · split
    · rw [toInt_sat32_absInt]; exact le_min (abs_nonneg _) (by decide)
    · have hmem := clampTo_mem (lo := 0) (hi := 2147483647) (Config.magqRaw re im).toInt (by decide)
      rw [toInt_ofInt_word (by exact le_trans (by decide) hmem.1) hmem.2]
      exact hmem.1

theorem magq_axis (a : Word) :
    (magq a 0).toInt = min |a.toInt| 2147483647 ∧ (magq 0 a).toInt = min |a.toInt| 2147483647 := by
  have hre : (magq a 0).toInt = min |a.toInt| 2147483647 := by
    unfold magq
    rw [if_pos rfl, toInt_sat32_absInt]
  refine ⟨hre, ?_⟩
  by_cases ha : a = 0
  · subst ha; exact hre
  · unfold magq
    rw [if_neg ha, if_pos rfl, toInt_sat32_absInt]

theorem atan2t_re_axis (a : Word) :
    (0 ≤ a.toInt → atan2t 0 a = 0) ∧ (a.toInt < 0 → atan2t 0 a = 0x80000000) := by
  unfold atan2t
  rw [if_pos rfl]
  exact ⟨fun h => if_pos h, fun h => by rw [if_neg (by omega)]; rfl⟩

theorem atan2t_im_axis (a : Word) :
    (0 < a.toInt → atan2t a 0 = 0x40000000) ∧ (a.toInt < 0 → atan2t a 0 = 0xC0000000) := by
  have hne : a.toInt ≠ 0 → a ≠ 0 := by rintro h rfl; exact h rfl
  unfold atan2t
  refine ⟨fun h => ?_, fun h => ?_⟩
  · rw [if_neg (hne (by omega)), if_pos rfl, if_pos h]; rfl
  · rw [if_neg (hne (by omega)), if_pos rfl, if_neg (by omega)]; rfl

/-! ### LOG10Q and EXP10Q -/

theorem log10qAbove_mono : Monotone log10qAbove := monotone_nat_of_le_succ fun _ => le_max_left _ _

theorem log10qBelow_anti : Antitone log10qBelow := antitone_nat_of_succ_le fun _ => min_le_left _ _

theorem log10q_mono {v w : Int} (h : v ≤ w) : log10q v ≤ log10q w := by
  unfold log10q
  by_cases hv : 16777216 ≤ v
  · rw [if_pos hv, if_pos (le_trans hv h)]
    exact log10qAbove_mono (by omega)
  · rw [if_neg hv]
    have hbelow : ∀ n, log10qBelow n ≤ 0 := fun n => log10qBelow_anti (Nat.zero_le n)
    split
    · exact le_trans (hbelow _) (log10qAbove_mono (Nat.zero_le _))
    · exact log10qBelow_anti (by omega)

theorem exp10qBelow_anti : Antitone exp10qBelow := antitone_nat_of_succ_le fun _ => min_le_left _ _

theorem exp10qBelow_pos (n : Nat) : 0 < exp10qBelow n := by
  induction n with
  | zero => decide
  | succ n ih =>
    exact lt_min ih (lt_of_lt_of_le Int.zero_lt_one (clampTo_mem _ (by decide)).1)

theorem exp10q_mono {d e : Int} (h : d ≤ e) : exp10q d ≤ exp10q e := exp10qBelow_anti (by omega)

theorem exp10q_mem (e : Int) : 0 < exp10q e ∧ exp10q e ≤ 16777216 :=
  ⟨exp10qBelow_pos _, exp10qBelow_anti (Nat.zero_le _)⟩

/-! ### The implementation parameters, and the tables -/

/-- The constraints of 00_scope.md section 4. -/
theorem cfg_ok {c : Config} (h : c.ok = true) :
    (1 ≤ c.blockMax ∧ c.blockMax ≤ 2047) ∧ (1 ≤ c.nchMax ∧ c.nchMax ≤ 16) ∧ (32 ≤ c.dmWords ∧ c.dmWords ≤ 2 ^ 31) ∧
    (isPow2 c.pvN ∧ 8 ≤ c.pvN ∧ c.pvN ≤ 2 ^ 15) ∧ (isPow2 c.pvOsamp ∧ 4 ≤ c.pvOsamp ∧ c.pvOsamp ≤ c.pvN / 2) ∧
    (isPow2 c.rmsWin ∧ 1 ≤ c.rmsWin ∧ c.rmsWin ≤ 4096) := by
  simp only [Config.ok, decide_eq_true_eq] at h
  tauto

theorem pvN_pow2 {c : Config} (h : c.ok = true) : ∃ k, 3 ≤ k ∧ k ≤ 15 ∧ c.pvN = 2 ^ k := by
  obtain ⟨-, -, -, ⟨hp, hlo, hhi⟩, -, -⟩ := cfg_ok h
  refine ⟨_, ?_, ?_, hp⟩
  · exact (Nat.pow_le_pow_iff_right (a := 2) (by omega)).mp (by rw [← hp]; exact hlo)
  · exact (Nat.pow_le_pow_iff_right (a := 2) (by omega)).mp (by rw [← hp]; exact hhi)

/-- `PV_N / 4` steps of a table are a quarter turn. -/
theorem quarter_mul_twiddleStep {c : Config} (h : c.ok = true) : c.pvN / 4 * twiddleStep c = 2 ^ 30 := by
  obtain ⟨k, h3, h15, hk⟩ := pvN_pow2 h
  rw [twiddleStep, hk, Nat.pow_div (by omega) (by omega), show 4 = 2 ^ 2 from rfl, Nat.pow_div (by omega) (by omega),
    ← Nat.pow_add, show k - 2 + (32 - k) = 30 by omega]

theorem half_eq_two_quarters {c : Config} (h : c.ok = true) : c.pvN / 2 = 2 * (c.pvN / 4) := by
  obtain ⟨k, h3, -, hk⟩ := pvN_pow2 h
  rw [hk, show k = k - 2 + 2 by omega, Nat.pow_add]
  omega

theorem table_anchors {c : Config} (h : c.ok = true) :
    twr c 0 = 16777216 ∧ twi c 0 = 0 ∧ twr c (c.pvN / 4) = 0 ∧ twi c (c.pvN / 4) = -16777216 ∧
    hann c 0 = 0 ∧ hann c (c.pvN / 2) = 16777216 ∧ hann c (c.pvN / 4) = 8388608 ∧
    hann c (3 * (c.pvN / 4)) = 8388608 := by
  have hq := quarter_mul_twiddleStep h
  have h2 : c.pvN / 2 * twiddleStep c = 2 ^ 31 := by rw [half_eq_two_quarters h, Nat.mul_assoc, hq]; rfl
  have h3 : 3 * (c.pvN / 4) * twiddleStep c = 3 * 2 ^ 30 := by rw [Nat.mul_assoc, hq]
  simp only [twr, twi, hann, hq, h2, h3, Nat.zero_mul]
  exact ⟨rfl, rfl, rfl, rfl, rfl, rfl, rfl, rfl⟩

/-- Settles O29: every anchor of R12 to R17, and the tables of R18. -/
theorem configurationFunctionsMeetTheirAnchors : Obligations.ConfigurationFunctionsMeetTheirAnchors :=
  ⟨fun p => ⟨abs_cost_le p, abs_sint_le p⟩, cost_anchors, sint_anchors, fun _ h => ⟨cost_neg h, sint_neg h⟩,
    magq_nonneg, magq_axis,
    fun a => ⟨(atan2t_re_axis a).1, (atan2t_re_axis a).2, (atan2t_im_axis a).1, (atan2t_im_axis a).2⟩,
    ⟨rfl, fun _ _ _ h _ => log10q_mono h⟩,
    ⟨rfl, fun d e _ h _ => ⟨(exp10q_mem d).1, exp10q_mono h, (exp10q_mem e).2⟩⟩,
    fun _ h => table_anchors h, fun _ _ _ _ => ⟨fun _ => ⟨rfl, rfl⟩, rfl⟩⟩

end Sys2Proof.Proofs
end

section
/-! # What each command may change: its frame, and its notes in FLAGS -/

namespace Sys2Proof.Proofs

open Sys2Proof.Machine Sys2Proof.Safety

-- Proofs one after the other: each thread of the compiler counts against the check's memory limit.
set_option Elab.async false

/-! ### Frames -/

/-- `s` with the fields that the command may write taken from `e` (30_encoding.md R107, 20_memory.md R86). -/
def graft (i : Instr) (e s : State) : State :=
  match i with
  | .nop => s
  | .init =>
    { s with
      v := e.v, x := e.x, dlreq := e.dlreq, dlbase := e.dlbase, dllen := e.dllen, devok := e.devok, ps := e.ps
      pa := e.pa, bqz1 := e.bqz1, bqz2 := e.bqz2, bqy := e.bqy, pv := e.pv, env := e.env }
  | .devupd => { s with dlbase := e.dlbase, dllen := e.dllen, dm := e.dm, devok := e.devok }
  | .commit => { s with pa := e.pa }
  | .ldx _ _ _ => { s with v := e.v }
  | .acy _ _ _ => { s with ybuf := e.ybuf, flags := e.flags }
  | .xadd _ _ => { s with x := e.x }
  | .mixo _ _ => { s with ybuf := e.ybuf, flags := e.flags }
  | .rdwr _ _ _ => { s with dm := e.dm }
  | .rdrd _ _ _ => { s with v := e.v }
  | .rdrtw _ _ _ _ _ => { s with v := e.v, dm := e.dm }
  | .bq2 _ _ _ => { s with v := e.v, bqz1 := e.bqz1, bqz2 := e.bqz2, bqy := e.bqy, flags := e.flags }
  | .bq1 _ _ _ => { s with v := e.v, bqz1 := e.bqz1, bqy := e.bqy, flags := e.flags }
  | .ap _ _ _ _ => { s with v := e.v, dm := e.dm, flags := e.flags }
  | .bqblk _ _ _ _ => { s with ybuf := e.ybuf, bqz1 := e.bqz1, bqz2 := e.bqz2, bqy := e.bqy, flags := e.flags }
  | .hhmix _ _ => { s with v := e.v, flags := e.flags }
  | .rotmix _ _ => { s with v := e.v, flags := e.flags }
  | .fdnstep _ _ _ => { s with v := e.v, bqz1 := e.bqz1, bqy := e.bqy, dm := e.dm, flags := e.flags }
  | .fftbrev => { s with pv := { s.pv with fr := e.pv.fr, fi := e.pv.fi } }
  | .bfly _ _ _ _ => { s with pv := { s.pv with fr := e.pv.fr, fi := e.pv.fi }, flags := e.flags }
  | .fft _ => { s with pv := { s.pv with fr := e.pv.fr, fi := e.pv.fi }, flags := e.flags }
  | .pvwin => { s with pv := { s.pv with fr := e.pv.fr, fi := e.pv.fi } }
  | .pvana => { s with pv := { s.pv with lastph := e.pv.lastph, amag := e.pv.amag, afrq := e.pv.afrq } }
  | .pvshift => { s with pv := { s.pv with smag := e.pv.smag, sfrq := e.pv.sfrq }, flags := e.flags }
  | .pvsyn => { s with pv := { s.pv with fr := e.pv.fr, fi := e.pv.fi, sumph := e.pv.sumph }, flags := e.flags }
  | .pvola => { s with pv := { s.pv with acc := e.pv.acc, outf := e.pv.outf, inf := e.pv.inf }, flags := e.flags }
  | .pshblk _ _ _ => { s with pv := e.pv, ybuf := e.ybuf, flags := e.flags }
  | .envlink _ _ => { s with v := e.v, flags := e.flags }
  | .envrms _ _ =>
    { s with v := e.v, env := { s.env with sum := e.env.sum, win := e.env.win, pos := e.env.pos }, flags := e.flags }
  | .envfol _ _ => { s with v := e.v, env := { s.env with last := e.env.last } }
  | .envgain _ _ => { s with v := e.v, env := { s.env with gain := e.env.gain } }
  | .cmpblk _ => { s with ybuf := e.ybuf, env := e.env, flags := e.flags }

/-- From `s` to `t` nothing changes but what the command may write. -/
def TouchesOnly (i : Instr) (s t : State) : Prop := t = graft i t s

theorem graft_self (i : Instr) (s : State) : graft i s s = s := by cases i <;> rfl

theorem graft_graft (i : Instr) (a b c : State) : graft i a (graft i b c) = graft i a c := by cases i <;> rfl

theorem TouchesOnly.refl (i : Instr) (s : State) : TouchesOnly i s s := (graft_self i s).symm

theorem TouchesOnly.trans {i : Instr} {s t u : State} (h : TouchesOnly i s t) (g : TouchesOnly i t u) :
    TouchesOnly i s u :=
  calc u = graft i u t := g
    _ = graft i u (graft i t s) := congrArg (graft i u) h
    _ = graft i u s := graft_graft i u t s

/-- A loop whose turns touch only what the command may write. -/
theorem TouchesOnly.iter {i : Instr} {n : Nat} {f : Nat → State → State} {s : State}
    (h : ∀ k b, TouchesOnly i b (f k b)) : TouchesOnly i s (Machine.iter n f s) :=
  iter_inv (fun _ b => TouchesOnly i s b) n f s (.refl i s) fun k b _ hb => hb.trans (h k b)

/-- What one command touches only, a command that may write more touches only. -/
theorem TouchesOnly.mono {i j : Instr} (hij : ∀ e s, graft j (graft i e s) s = graft i e s) {s t : State}
    (h : TouchesOnly i s t) : TouchesOnly j s t := by
  have hj := hij t s
  rw [show graft i t s = t from h.symm] at hj
  exact hj.symm

/-- A field that the command may not write is as before. -/
theorem TouchesOnly.field {β : Type} {i : Instr} {s t : State} (h : TouchesOnly i s t) (g : State → β)
    (hi : ∀ e s, g (graft i e s) = g s) : g t = g s := by
  rw [h]
  exact hi t s

/-- Completing a command writes none of the fields that commands write. -/
theorem graft_complete (i : Instr) (e s : State) : graft i e.complete s = graft i e s := by cases i <;> rfl

theorem TouchesOnly.complete {i : Instr} {s t : State} (h : TouchesOnly i s t) :
    t.complete = (graft i t.complete s).complete := by
  rw [graft_complete]
  exact congrArg State.complete h

/-! ### The loops -/

theorem accumY_touchesOnly (s : State) (c i : Nat) (v : Int) : TouchesOnly (.mixo 0 0) s (s.accumY c i v) := by
  cases s
  rfl

theorem mixChannel_touchesOnly (i : Nat) (x : Int) (c : Nat) (s : State) :
    TouchesOnly (.mixo 0 0) s (s.mixChannel i x c) := by
  unfold State.mixChannel
  split
  · exact accumY_touchesOnly s c i _
  · exact .refl _ s

theorem bq2Step_touchesOnly (f : Nat) (x : Int) (s : State) :
    TouchesOnly (.bqblk 0 0 0 0) s (bq2Step f x s).2 := by
  cases s
  rfl

theorem bqBlockSample_touchesOnly (f ci co k : Nat) (s : State) :
    TouchesOnly (.bqblk 0 0 0 0) s (bqBlockSample f ci co k s) := by
  unfold bqBlockSample
  exact (bq2Step_touchesOnly f _ s).trans ((accumY_touchesOnly _ co k _).mono fun _ _ => rfl)

theorem bitRevSwap_touchesOnly (k : Nat) (s : State) : TouchesOnly .fftbrev s (bitRevSwap k s) := by
  unfold bitRevSwap
  dsimp only
  split
  · rfl
  · exact .refl _ s

theorem bitReversal_touchesOnly (s : State) : TouchesOnly .fftbrev s (bitReversal s) := .iter bitRevSwap_touchesOnly

theorem butterfly_touchesOnly (inv : Bool) (a b m : Nat) (s : State) :
    TouchesOnly (.fft 0) s (butterfly inv a b m s) := by
  cases s
  rfl

theorem fftStage_touchesOnly (inv : Bool) (st : Nat) (s : State) : TouchesOnly (.fft 0) s (fftStage inv st s) :=
  .iter fun _ _ => .iter fun _ _ => butterfly_touchesOnly inv _ _ _ _

theorem fftRun_touchesOnly (inv : Bool) (s : State) : TouchesOnly (.fft 0) s (fftRun inv s) :=
  ((bitReversal_touchesOnly s).mono fun _ _ => rfl).trans (.iter (fftStage_touchesOnly inv))

theorem windowFrame_touchesOnly (s : State) : TouchesOnly .pvwin s (windowFrame s) := .iter fun _ _ => rfl

theorem analyseFrame_touchesOnly (s : State) : TouchesOnly .pvana s (analyseFrame s) := .iter fun _ _ => rfl

theorem shiftBin_touchesOnly (k : Nat) (s : State) : TouchesOnly .pvshift s (shiftBin k s) := by
  unfold shiftBin
  split
  · rfl
  · exact .refl _ s

theorem clearBins_touchesOnly (n : Nat) (s : State) : TouchesOnly .pvshift s (iter n clearBin s) :=
  .iter fun _ _ => rfl

theorem shiftFrame_touchesOnly (s : State) : TouchesOnly .pvshift s (shiftFrame s) :=
  (clearBins_touchesOnly _ s).trans (.iter shiftBin_touchesOnly)

theorem synthBins_touchesOnly (n : Nat) (s : State) : TouchesOnly .pvsyn s (iter n synthBin s) := .iter fun _ _ => rfl

theorem synthFrame_touchesOnly (s : State) : TouchesOnly .pvsyn s (synthFrame s) :=
  (synthBins_touchesOnly _ s).trans (.iter fun _ _ => rfl)

theorem overlapFrame_touchesOnly (s : State) : TouchesOnly .pvola s (overlapFrame s) :=
  ((((TouchesOnly.iter (i := .pvola) (f := overlapBin) fun _ _ => rfl).trans
    (.iter (f := emitBin) fun _ _ => rfl)).trans
    (.iter (f := shiftAccBin) fun _ _ => rfl)).trans
    (.iter (f := clearAccBin) fun _ _ => rfl)).trans
    (.iter (f := shiftInBin) fun _ _ => rfl)

theorem vocoderFrame_touchesOnly (s : State) : TouchesOnly (.pshblk 0 0 0) s (vocoderFrame s) :=
  ((((((((windowFrame_touchesOnly s).mono fun _ _ => rfl).trans
    ((fftRun_touchesOnly false _).mono fun _ _ => rfl)).trans
    ((analyseFrame_touchesOnly _).mono fun _ _ => rfl)).trans
    ((shiftFrame_touchesOnly _).mono fun _ _ => rfl)).trans
    ((synthFrame_touchesOnly _).mono fun _ _ => rfl)).trans
    ((fftRun_touchesOnly true _).mono fun _ _ => rfl)).trans
    ((overlapFrame_touchesOnly _).mono fun _ _ => rfl))

theorem advanceFifo_touchesOnly (s : State) : TouchesOnly (.pshblk 0 0 0) s (advanceFifo s) := by
  unfold advanceFifo
  split
  · exact .trans (t := { s with pv := { s.pv with cnt := BitVec.ofNat 32 s.cfg.pvL } }) rfl (vocoderFrame_touchesOnly _)
  · rfl

theorem countMute_touchesOnly (s : State) : TouchesOnly (.pshblk 0 0 0) s (countMute s) := by
  unfold countMute
  split
  · rfl
  · exact .refl _ s

theorem pitchSample_touchesOnly (ci co k : Nat) (s : State) :
    TouchesOnly (.pshblk 0 0 0) s (pitchSample ci co k s) :=
  have hfeed : TouchesOnly (.pshblk 0 0 0) s (feedSample ci k s) := rfl
  ((hfeed.trans (countMute_touchesOnly _)).trans ((accumY_touchesOnly _ co k _).mono fun _ _ => rfl)).trans
    (advanceFifo_touchesOnly _)

theorem linkStep_touchesOnly (i : Nat) (s : State) : TouchesOnly (.envlink 0 0) s (linkStep i s).2 := by
  unfold linkStep
  dsimp only
  split <;> rfl

/-- The level that FOLLOW is given: LINK, and RMS in RMS mode (R207). -/
def detectStep (i : Nat) (s : State) : Word × State :=
  if s.rmsMode then rmsStep (linkStep i s).1.toInt (linkStep i s).2 else linkStep i s

theorem chain_eq (i : Nat) (s : State) :
    chain i s = gainStep (followStep (detectStep i s).1.toInt (detectStep i s).2).1.toInt
      (followStep (detectStep i s).1.toInt (detectStep i s).2).2 := rfl

/-- One sample of CMPBLK is the chain, then every channel at the chain's gain (R207). -/
theorem compressSample_eq (i : Nat) (s : State) :
    compressSample i s = iter (s.parU pCNch) (compressChannel i (rnd 24 (s.parQ pCPost * (chain i s).1.toInt)))
      (chain i s).2 := rfl

theorem rmsStep_touchesOnly (p : Int) (s : State) : TouchesOnly (.cmpblk 0) s (rmsStep p s).2 := by
  cases s
  rfl

theorem followStep_touchesOnly (v : Int) (s : State) : TouchesOnly (.cmpblk 0) s (followStep v s).2 := by
  cases s
  rfl

theorem gainStep_touchesOnly (e : Int) (s : State) : TouchesOnly (.cmpblk 0) s (gainStep e s).2 := by
  cases s
  rfl

theorem detectStep_touchesOnly (i : Nat) (s : State) : TouchesOnly (.cmpblk 0) s (detectStep i s).2 := by
  have hlink : TouchesOnly (.cmpblk 0) s (linkStep i s).2 := by
    unfold linkStep
    dsimp only
    split <;> rfl
  unfold detectStep
  split
  · exact hlink.trans (rmsStep_touchesOnly _ _)
  · exact hlink

theorem chain_touchesOnly (i : Nat) (s : State) : TouchesOnly (.cmpblk 0) s (chain i s).2 := by
  rw [chain_eq]
  exact ((detectStep_touchesOnly i s).trans (followStep_touchesOnly _ _)).trans (gainStep_touchesOnly _ _)

/-- Noting a saturation touches only what a command that may write FLAGS may write. -/
theorem noteSat_touchesOnly {i : Instr} (h : ∀ (f : BitVec 8) (s : State), graft i { s with flags := f } s =
    { s with flags := f }) (b : Bool) (s : State) : TouchesOnly i s (s.noteSat b) := (h _ s).symm

theorem compressChannel_touchesOnly (i : Nat) (gt : Int) (c : Nat) (s : State) :
    TouchesOnly (.mixo 0 0) s (compressChannel i gt c s) := by
  unfold compressChannel
  exact (accumY_touchesOnly s c i _).trans (noteSat_touchesOnly (fun _ _ => rfl) _ _)

theorem compressSample_touchesOnly (i : Nat) (s : State) : TouchesOnly (.cmpblk 0) s (compressSample i s) := by
  rw [compressSample_eq]
  exact (chain_touchesOnly i s).trans
    ((TouchesOnly.iter fun c b => compressChannel_touchesOnly i _ c b).mono fun _ _ => rfl)

/-! ### The frame of every command -/

theorem initialise_touchesOnly (s : State) : TouchesOnly .init s s.initialise := by
  cases s
  rfl

theorem reallocate_touchesOnly (s : State) : TouchesOnly .devupd s s.reallocate := by
  cases s
  rfl

theorem deviceUpdate_touchesOnly (s : State) : TouchesOnly .devupd s s.deviceUpdate := by
  have h : TouchesOnly .devupd s (if s.lengthChanged then s.reallocate else s) := by
    split
    · exact reallocate_touchesOnly s
    · exact .refl _ s
  unfold State.deviceUpdate
  generalize (if s.lengthChanged then s.reallocate else s) = u at h
  exact h.trans rfl

theorem bq1Step_touchesOnly (f : Nat) (x : Int) (s : State) : TouchesOnly (.fdnstep 0 0 0) s (bq1Step f x s).2 := by
  cases s
  rfl

theorem apStep_touchesOnly (a : Nat) (o : Word) (x : Int) (s : State) :
    TouchesOnly (.fdnstep 0 0 0) s (apStep a o x s).2 := by
  cases s
  rfl

theorem ringWrite_touchesOnly (d : Nat) (o w : Word) (s : State) :
    TouchesOnly (.fdnstep 0 0 0) s (s.ringWrite d o w) := rfl

theorem fdnLane_touchesOnly (c : Nat) (o sample : Word) (s : State) :
    TouchesOnly (.fdnstep 0 0 0) s (fdnLane c o sample s).2 := by
  unfold fdnLane
  exact ((noteSat_touchesOnly (fun _ _ => rfl) _ s).trans (bq1Step_touchesOnly _ _ _)).trans
    (apStep_touchesOnly _ _ _ _)

theorem fdnLanes_touchesOnly (o : Word) (l : Lanes) (s : State) :
    TouchesOnly (.fdnstep 0 0 0) s (fdnLanes o l s).2 := by
  unfold fdnLanes
  exact (((fdnLane_touchesOnly 0 o l.l0 s).trans (fdnLane_touchesOnly 1 o l.l1 _)).trans
    (fdnLane_touchesOnly 2 o l.l2 _)).trans (fdnLane_touchesOnly 3 o l.l3 _)

theorem fdnClose_touchesOnly (o : Word) (m : Lanes) (s : State) :
    TouchesOnly (.fdnstep 0 0 0) s (fdnClose o m s) := by
  unfold fdnClose
  exact (((ringWrite_touchesOnly _ o m.l0 s).trans (ringWrite_touchesOnly _ o m.l1 _)).trans
    (ringWrite_touchesOnly _ o m.l2 _)).trans (ringWrite_touchesOnly _ o m.l3 _)

theorem setLanes_touchesOnly (d : Nat) (l : Lanes) (s : State) : TouchesOnly (.hhmix 0 0) s (s.setLanes d l) := by
  cases s
  rfl

theorem putLanes_touchesOnly (d : Nat) (e : ExactLanes) (s : State) : TouchesOnly (.hhmix 0 0) s (s.putLanes d e) :=
  (setLanes_touchesOnly d e.words s).trans (noteSat_touchesOnly (fun _ _ => rfl) e.clip _)

theorem fdnEffect_touchesOnly (d x vs : Nat) (s : State) : TouchesOnly (.fdnstep 0 0 0) s (fdnEffect d x vs s) := by
  have hl := fdnLanes_touchesOnly (s.getX x) (s.lanes vs) s
  unfold fdnEffect
  dsimp only
  generalize fdnLanes (s.getX x) (s.lanes vs) s = r at hl
  exact ((hl.trans (fdnClose_touchesOnly _ _ _)).trans (noteSat_touchesOnly (fun _ _ => rfl) _ _)).trans
    ((setLanes_touchesOnly _ _ _).mono fun _ _ => rfl)

/-- Every command's effect changes nothing but what the command may write. -/
theorem effect_touchesOnly (i : Instr) (s : State) : TouchesOnly i s (effect i s) := by
  cases i with
  | init => exact initialise_touchesOnly s
  | devupd => exact deviceUpdate_touchesOnly s
  | hhmix d vs => exact putLanes_touchesOnly d _ s
  | rotmix d vs => exact putLanes_touchesOnly d _ s
  | fdnstep d x vs => exact fdnEffect_touchesOnly d x vs s
  | mixo x vs => exact TouchesOnly.iter (i := .mixo x vs) fun c b => mixChannel_touchesOnly _ _ c b
  | bqblk f ci co n => exact TouchesOnly.iter (i := .bqblk f ci co n) fun k b => bqBlockSample_touchesOnly f ci co k b
  | fftbrev => exact bitReversal_touchesOnly s
  | fft inv => exact fftRun_touchesOnly (inv == 1) s
  | pvwin => exact windowFrame_touchesOnly s
  | pvana => exact analyseFrame_touchesOnly s
  | pvshift => exact shiftFrame_touchesOnly s
  | pvsyn => exact synthFrame_touchesOnly s
  | pvola => exact overlapFrame_touchesOnly s
  | pshblk ci co n => exact TouchesOnly.iter (i := .pshblk ci co n) fun k b => pitchSample_touchesOnly ci co k b
  | envlink d x =>
    exact TouchesOnly.trans (i := .envlink d x) (t := (linkStep (s.getX x).toNat s).2) (linkStep_touchesOnly _ s) rfl
  | cmpblk n => exact TouchesOnly.iter (i := .cmpblk n) fun k b => compressSample_touchesOnly k b
  | _ => rfl

/-! ### FLAGS -/

theorem accumY_noted (s : State) (c i : Nat) (v : Int) :
    Noted (clips ((s.ybufAt (c * s.cfg.blockMax + i)).toInt + v)) s (s.accumY c i v) := noted_noteSat _ _

theorem mayNote_of_flags_eq {s t : State} (h : t.flags = s.flags) : MayNote s t := (noted_of_flags_eq h).may

theorem mixChannel_mayNote (i : Nat) (x : Int) (c : Nat) (s : State) : MayNote s (s.mixChannel i x c) := by
  unfold State.mixChannel
  split
  · exact (accumY_noted s c i _).may
  · exact .refl s

theorem bq2Step_noted (f : Nat) (x : Int) (s : State) :
    Noted (clips (rnd 24 (s.parQ (pBqB0 f) * x + (s.z1 f).toInt * 2 ^ 24)) ||
      clips (rnd 24 (s.parQ (pBqB1 f) * x - s.parQ (pBqA1 f) * (bq2Step f x s).1.toInt + (s.z2 f).toInt * 2 ^ 24)) ||
      clips (rnd 24 (s.parQ (pBqB2 f) * x - s.parQ (pBqA2 f) * (bq2Step f x s).1.toInt))) s (bq2Step f x s).2 := rfl

theorem bqBlockSample_mayNote (f ci co k : Nat) (s : State) : MayNote s (bqBlockSample f ci co k s) :=
  (bq2Step_noted f _ s).may.trans (accumY_noted _ co k _).may

theorem bq1Step_mayNote (f : Nat) (x : Int) (s : State) : MayNote s (bq1Step f x s).2 := ⟨_, rfl⟩

theorem apStep_mayNote (a : Nat) (o : Word) (x : Int) (s : State) : MayNote s (apStep a o x s).2 := ⟨_, rfl⟩

theorem putLanes_noted (d : Nat) (e : ExactLanes) (s : State) : Noted e.clip s (s.putLanes d e) := by
  cases s
  rfl

theorem fdnLane_mayNote (c : Nat) (o sample : Word) (s : State) : MayNote s (fdnLane c o sample s).2 := by
  unfold fdnLane
  exact ((noted_noteSat _ s).may.trans (bq1Step_mayNote _ _ _)).trans (apStep_mayNote _ _ _ _)

theorem fdnLanes_mayNote (o : Word) (l : Lanes) (s : State) : MayNote s (fdnLanes o l s).2 := by
  unfold fdnLanes
  exact (((fdnLane_mayNote 0 o l.l0 s).trans (fdnLane_mayNote 1 o l.l1 _)).trans (fdnLane_mayNote 2 o l.l2 _)).trans
    (fdnLane_mayNote 3 o l.l3 _)

theorem fdnClose_flags (o : Word) (m : Lanes) (s : State) : (fdnClose o m s).flags = s.flags := by
  simp [fdnClose, State.ringWrite]

theorem fdnEffect_mayNote (d x vs : Nat) (s : State) : MayNote s (fdnEffect d x vs s) := by
  have hl := fdnLanes_mayNote (s.getX x) (s.lanes vs) s
  unfold fdnEffect
  dsimp only
  generalize fdnLanes (s.getX x) (s.lanes vs) s = r at hl
  exact (hl.trans (mayNote_of_flags_eq (fdnClose_flags _ _ _))).trans ⟨_, rfl⟩

theorem fftRun_mayNote (inv : Bool) (s : State) : MayNote s (fftRun inv s) :=
  MayNote.trans (noted_of_flags_eq ((bitReversal_touchesOnly s).field State.flags fun _ _ => rfl)).may
    (.iter fun _ _ => .iter fun _ _ => .iter fun _ _ => ⟨_, rfl⟩)

theorem shiftBin_mayNote (k : Nat) (s : State) : MayNote s (shiftBin k s) := by
  unfold shiftBin
  split
  · exact ⟨_, rfl⟩
  · exact .refl s

theorem flags_iter {n : Nat} {f : Nat → State → State} (s : State) (h : ∀ k b, (f k b).flags = b.flags) :
    (iter n f s).flags = s.flags := iter_field State.flags n f s h

theorem shiftFrame_mayNote (s : State) : MayNote s (shiftFrame s) := by
  unfold shiftFrame
  exact (mayNote_of_flags_eq (flags_iter (f := clearBin) s fun _ _ => rfl)).trans (.iter shiftBin_mayNote)

theorem synthBin_mayNote (k : Nat) (s : State) : MayNote s (synthBin k s) := ⟨_, rfl⟩

theorem synthFrame_mayNote (s : State) : MayNote s (synthFrame s) := by
  unfold synthFrame
  exact (MayNote.iter synthBin_mayNote).trans (mayNote_of_flags_eq (flags_iter (f := zeroUpperBin) _ fun _ _ => rfl))

theorem overlapBin_mayNote (k : Nat) (s : State) : MayNote s (overlapBin k s) := ⟨_, rfl⟩

/-- Only the first loop of PVOLA notes a saturation (R184). -/
theorem overlapFrame_flags (s : State) : (overlapFrame s).flags = (iter s.cfg.pvN overlapBin s).flags := by
  unfold overlapFrame
  rw [flags_iter (f := shiftInBin) _ fun _ _ => rfl, flags_iter (f := clearAccBin) _ fun _ _ => rfl,
    flags_iter (f := shiftAccBin) _ fun _ _ => rfl, flags_iter (f := emitBin) _ fun _ _ => rfl]

theorem overlapFrame_mayNote (s : State) : MayNote s (overlapFrame s) :=
  MayNote.trans (.iter overlapBin_mayNote) (mayNote_of_flags_eq (overlapFrame_flags s))

theorem windowFrame_flags (s : State) : (windowFrame s).flags = s.flags := flags_iter s fun _ _ => rfl

theorem analyseFrame_flags (s : State) : (analyseFrame s).flags = s.flags := flags_iter s fun _ _ => rfl

theorem vocoderFrame_mayNote (s : State) : MayNote s (vocoderFrame s) := by
  unfold vocoderFrame
  exact (((((mayNote_of_flags_eq (windowFrame_flags s)).trans (fftRun_mayNote false _)).trans
    (mayNote_of_flags_eq (analyseFrame_flags _))).trans (shiftFrame_mayNote _)).trans (synthFrame_mayNote _)).trans
    ((fftRun_mayNote true _).trans (overlapFrame_mayNote _))

theorem advanceFifo_mayNote (s : State) : MayNote s (advanceFifo s) := by
  unfold advanceFifo
  split
  · exact .trans (t := { s with pv := { s.pv with cnt := BitVec.ofNat 32 s.cfg.pvL } }) (mayNote_of_flags_eq rfl)
      (vocoderFrame_mayNote _)
  · exact mayNote_of_flags_eq rfl

theorem countMute_flags (s : State) : (countMute s).flags = s.flags := by
  unfold countMute
  split <;> rfl

theorem pitchSample_mayNote (ci co k : Nat) (s : State) : MayNote s (pitchSample ci co k s) :=
  ((MayNote.trans (t := countMute (feedSample ci k s)) (mayNote_of_flags_eq (countMute_flags _))
    (accumY_noted _ co k _).may)).trans (advanceFifo_mayNote _)

theorem linkStep_mayNote (i : Nat) (s : State) : MayNote s (linkStep i s).2 := by
  unfold linkStep
  dsimp only
  split <;> exact ⟨_, rfl⟩

theorem rmsStep_mayNote (p : Int) (s : State) : MayNote s (rmsStep p s).2 := ⟨_, rfl⟩

theorem detectStep_mayNote (i : Nat) (s : State) : MayNote s (detectStep i s).2 := by
  unfold detectStep
  split
  · exact (linkStep_mayNote i s).trans (rmsStep_mayNote _ _)
  · exact linkStep_mayNote i s

theorem chain_flags (i : Nat) (s : State) : (chain i s).2.flags = (detectStep i s).2.flags := by
  rw [chain_eq]
  generalize detectStep i s = d
  rfl

theorem compressChannel_mayNote (i : Nat) (gt : Int) (c : Nat) (s : State) : MayNote s (compressChannel i gt c s) := by
  unfold compressChannel
  exact (accumY_noted s c i _).may.trans (noted_noteSat _ _).may

theorem compressSample_mayNote (i : Nat) (s : State) : MayNote s (compressSample i s) := by
  rw [compressSample_eq]
  exact ((detectStep_mayNote i s).trans (mayNote_of_flags_eq (chain_flags i s))).trans
    (.iter fun _ _ => compressChannel_mayNote i _ _ _)

/-- No command clears or sets an error bit of FLAGS in its effect, nor clears SAT. -/
theorem effect_mayNote (i : Instr) (s : State) : MayNote s (effect i s) := by
  cases i with
  | acy ch x vs => exact (accumY_noted s _ _ _).may
  | mixo x vs => exact .iter fun c b => mixChannel_mayNote _ _ c b
  | bq2 d f vs => exact ⟨_, rfl⟩
  | bq1 d f vs => exact ⟨_, rfl⟩
  | ap d a x vs => exact ⟨_, rfl⟩
  | bqblk f ci co n => exact .iter fun k b => bqBlockSample_mayNote f ci co k b
  | hhmix d vs => exact (putLanes_noted d _ s).may
  | rotmix d vs => exact (putLanes_noted d _ s).may
  | fdnstep d x vs => exact fdnEffect_mayNote d x vs s
  | bfly xa xb xm inv => exact ⟨_, rfl⟩
  | fft inv => exact fftRun_mayNote (inv == 1) s
  | pvshift => exact shiftFrame_mayNote s
  | pvsyn => exact synthFrame_mayNote s
  | pvola => exact overlapFrame_mayNote s
  | pshblk ci co n => exact .iter fun k b => pitchSample_mayNote ci co k b
  | envlink d x => exact linkStep_mayNote _ s
  | envrms d vs => exact ⟨_, rfl⟩
  | cmpblk n => exact .iter fun k b => compressSample_mayNote k b
  | _ => exact mayNote_of_flags_eq ((effect_touchesOnly _ s).field State.flags fun _ _ => rfl)

end Sys2Proof.Proofs
end

section
/-! # Errors, completion and the frame of every command (60_exceptions.md, 30_encoding.md R112) -/

namespace Sys2Proof.Proofs

open Sys2Proof.Machine Sys2Proof.Safety

-- Proofs one after the other: each thread of the compiler counts against the check's memory limit.
set_option Elab.async false

/-! ### DEVUPD's own check (R257) -/

theorem allocFits_iff (s : State) :
    s.allocFits = true ↔ (∀ d, d < 32 → need s d ≤ 2 ^ 31) ∧ s.newTotal ≤ s.cfg.dmWords := by
  simp only [State.allocFits, Bool.and_eq_true, List.all_eq_true, List.mem_range, decide_eq_true_eq]
  exact Iff.rfl

/-- A length that is the least power of two is the one DEVUPD takes. -/
theorem newLen_eq {s : State} {d n : Nat} (h : LeastPow2 (max 1 (need s d)) n) : s.newLen d = n :=
  leastPow2_unique (nextPow2_leastPow2 _) h

theorem newTotal_eq {s : State} {len : Nat → Nat} (h : ∀ d, d < 32 → LeastPow2 (max 1 (need s d)) (len d)) :
    s.newTotal = sumUpTo 32 len :=
  sumUpTo_congr _ _ _ fun d hd => newLen_eq (h d hd)

/-- Settles O13. -/
theorem badOperandsRaiseEOperand : Obligations.BadOperandsRaiseEOperand := fun _ _ _ ho => exec_bad_operand ho

/-- Settles O14. -/
theorem lineCommandsWithoutADeviceRaiseENodev : Obligations.LineCommandsWithoutADeviceRaiseENodev :=
  fun _ _ _ hl ho hd => exec_no_device ho hl hd

/-- Settles O15: each condition makes the arena check fail. -/
theorem oversizedArenaRaisesEAlloc : Obligations.OversizedArenaRaisesEAlloc := by
  intro s len hlen hbig
  have hfits : ¬ s.allocFits = true := by
    rw [allocFits_iff, newTotal_eq hlen]
    rintro ⟨hneed, htotal⟩
    rcases hbig with ⟨d, hd, hlarge⟩ | hlarge
    · exact absurd (hneed d hd) (by omega)
    · omega
  rw [exec_devupd, if_neg hfits]
  rfl

/-- What no command's effect writes. -/
theorem graft_unwritten (i : Instr) (e s : State) :
    (graft i e s).lasterr = s.lasterr ∧ (graft i e s).errinfo = s.errinfo ∧ (graft i e s).msel = s.msel ∧
    (graft i e s).maddr = s.maddr ∧ (graft i e s).resp = s.resp ∧ (graft i e s).host = s.host ∧
    (graft i e s).cfg = s.cfg ∧ (graft i e s).epoch = s.epoch ∧ (graft i e s).polls = s.polls ∧
    (graft i e s).xbuf = s.xbuf := by
  cases i <;> exact ⟨rfl, rfl, rfl, rfl, rfl, rfl, rfl, rfl, rfl, rfl⟩

theorem TouchesOnly.unwritten {i : Instr} {s t : State} (h : TouchesOnly i s t) :
    t.lasterr = s.lasterr ∧ t.errinfo = s.errinfo ∧ t.msel = s.msel ∧ t.maddr = s.maddr ∧ t.resp = s.resp ∧
    t.host = s.host ∧ t.cfg = s.cfg ∧ t.epoch = s.epoch ∧ t.polls = s.polls ∧ t.xbuf = s.xbuf := by
  have hg := graft_unwritten i t s
  rwa [show graft i t s = t from h.symm] at hg

/-- Settles O16. -/
theorem acceptedCommandsComplete : Obligations.AcceptedCommandsComplete := by
  intro i s ho hl hd
  obtain ⟨h1, h2, h3, h4, h5, h6, h7, h8, -, h10⟩ := (effect_touchesOnly i s).unwritten
  have hnote := effect_mayNote i s
  exact ⟨_, exec_accepted ho hl fun h => (allocFits_iff s).mpr (hd h), rfl, rfl, h1, h2, hnote.errorBits, hnote.sat,
    h3, h4, h5, h6, h7, h8, h10⟩

/-- What a command may write, clause by clause of the statement on writers. -/
theorem graft_fields (i : Instr) (e s : State) :
    (i ≠ .init → ¬ writesTap i → (graft i e s).v = s.v) ∧
    (i ≠ .init → (graft i e s).ps = s.ps ∧ (graft i e s).dlreq = s.dlreq) ∧
    (i ≠ .init → i ≠ .commit → (graft i e s).pa = s.pa) ∧
    (i ≠ .init → i ≠ .devupd → (graft i e s).dlbase = s.dlbase ∧ (graft i e s).dllen = s.dllen ∧
      (graft i e s).devok = s.devok) ∧
    (i ≠ .init → (∀ d imm, i ≠ .xadd d imm) → (graft i e s).x = s.x) ∧
    (i ≠ .devupd → (∀ d x vs, i ≠ .rdwr d x vs) → (∀ d l x q vs, i ≠ .rdrtw d l x q vs) →
      (∀ d a x vs, i ≠ .ap d a x vs) → (∀ d x vs, i ≠ .fdnstep d x vs) → (graft i e s).dm = s.dm) ∧
    ((∀ c x vs, i ≠ .acy c x vs) → (∀ x vs, i ≠ .mixo x vs) → (∀ f ci co n, i ≠ .bqblk f ci co n) →
      (∀ ci co n, i ≠ .pshblk ci co n) → (∀ n, i ≠ .cmpblk n) → (graft i e s).ybuf = s.ybuf) ∧
    (i ≠ .init → (∀ d vs, i ≠ .envrms d vs) → (∀ d vs, i ≠ .envfol d vs) → (∀ d vs, i ≠ .envgain d vs) →
      (∀ n, i ≠ .cmpblk n) → (graft i e s).env = s.env) ∧
    (i ≠ .init → i ≠ .fftbrev → (∀ a b m inv, i ≠ .bfly a b m inv) → (∀ inv, i ≠ .fft inv) → i ≠ .pvwin →
      i ≠ .pvana → i ≠ .pvshift → i ≠ .pvsyn → i ≠ .pvola → (∀ ci co n, i ≠ .pshblk ci co n) →
      (graft i e s).pv = s.pv) ∧
    (i ≠ .init → (∀ ci co n, i ≠ .pshblk ci co n) →
      (graft i e s).pv.cnt = s.pv.cnt ∧ (graft i e s).pv.mute = s.pv.mute) ∧
    (i ≠ .init → (∀ d f vs, i ≠ .bq2 d f vs) → (∀ f ci co n, i ≠ .bqblk f ci co n) →
      (graft i e s).bqz2 = s.bqz2) ∧
    (i ≠ .init → (∀ d f vs, i ≠ .bq2 d f vs) → (∀ d f vs, i ≠ .bq1 d f vs) → (∀ f ci co n, i ≠ .bqblk f ci co n) →
      (∀ d x vs, i ≠ .fdnstep d x vs) → (graft i e s).bqz1 = s.bqz1 ∧ (graft i e s).bqy = s.bqy) := by
  cases i <;> simp [graft, writesTap]

/-- The vocoder's and the compressor's fields and SAT, by the opcodes of their writers. -/
theorem graft_fields_by_opcode (i : Instr) (e s : State) :
    (i.opcode ∉ [0x01, 0x40, 0x41, 0x42, 0x43, 0x46, 0x48] →
      (graft i e s).pv.fr = s.pv.fr ∧ (graft i e s).pv.fi = s.pv.fi) ∧
    (i.opcode ∉ [0x01, 0x47, 0x48] → (graft i e s).pv.inf = s.pv.inf ∧ (graft i e s).pv.outf = s.pv.outf ∧
      (graft i e s).pv.acc = s.pv.acc) ∧
    (i.opcode ∉ [0x01, 0x44, 0x48] → (graft i e s).pv.lastph = s.pv.lastph ∧ (graft i e s).pv.amag = s.pv.amag ∧
      (graft i e s).pv.afrq = s.pv.afrq) ∧
    (i.opcode ∉ [0x01, 0x46, 0x48] → (graft i e s).pv.sumph = s.pv.sumph) ∧
    (i.opcode ∉ [0x01, 0x45, 0x48] → (graft i e s).pv.smag = s.pv.smag ∧ (graft i e s).pv.sfrq = s.pv.sfrq) ∧
    (i.opcode ∉ [0x01, 0x51, 0x58] → (graft i e s).env.win = s.env.win ∧ (graft i e s).env.sum = s.env.sum ∧
      (graft i e s).env.pos = s.env.pos) ∧
    (i.opcode ∉ [0x01, 0x52, 0x58] → (graft i e s).env.last = s.env.last) ∧
    (i.opcode ∉ [0x01, 0x53, 0x58] → (graft i e s).env.gain = s.env.gain) ∧
    (i.opcode ∉ [0x09, 0x0B, 0x20, 0x21, 0x22, 0x28, 0x30, 0x31, 0x32, 0x41, 0x42, 0x45, 0x46, 0x47, 0x48, 0x50, 0x51,
      0x58] → (graft i e s).sat = s.sat) := by
  cases i <;> simp [graft, Instr.opcode, State.sat]

/-- Settles O17: a rejected command writes the error record alone; one that completes keeps to its frame. -/
theorem onlyTheNamedCommandsWriteEachState : Obligations.OnlyTheNamedCommandsWriteEachState := by
  intro i s t h
  rcases exec_next_cases h with ⟨e, info, rfl⟩ | ⟨-, -, -, rfl⟩
  · have hkeep : ∀ P : Prop, (s.raise e info).cmdok = true → P := fun P hc => absurd hc (by simp)
    simp only [State.raise_v, State.raise_ps, State.raise_dlreq, State.raise_pa, State.raise_dlbase, State.raise_dllen,
      State.raise_devok, State.raise_x, State.raise_dm, State.raise_ybuf, State.raise_env, State.raise_pv,
      State.raise_bqz2, State.raise_bqz1, State.raise_bqy, State.raise_xbuf, State.raise_msel, State.raise_maddr,
      State.raise_resp, State.raise_host, State.raise_cfg, State.raise_epoch, State.raise_polls, State.raise_running,
      implies_true, and_true, true_and]
    refine ⟨?_, hkeep _, fun _ => rfl⟩
    intro _
    cases e <;> simp [State.sat, flagBit, Err.code]
  · have hf := effect_touchesOnly i s
    have hnote := (effect_mayNote i s).errorBits
    generalize effect i s = u at hf hnote
    have hg := graft_fields i u s
    have ho := graft_fields_by_opcode i u s
    rw [show graft i u s = u from hf.symm] at hg ho
    obtain ⟨h1, h2, h3, h4, h5, h6, h7, h8, h9, h10⟩ := hf.unwritten
    obtain ⟨g1, g2, g3, g4, g5, g6, g7, g8, g9, g10, g11, g12⟩ := hg
    obtain ⟨o1, o2, o3, o4, o5, o6, o7, o8, o9⟩ := ho
    exact ⟨g1, g2, g3, g4, g5, g6, g7, g8, g9, g10, g11, g12, o1, o2, o3, o4, o5, o6, o7, o8, o9,
      ⟨h10, h3, h4, h5, h6, h7, h8, h9, rfl⟩, fun _ => ⟨h1, h2, hnote⟩, fun hc => absurd hc (by simp)⟩

/-! ### NOP, INIT, COMMIT (40_system.md) -/

/-- Settles O31. -/
theorem nopInitAndCommitComplete : Obligations.NopInitAndCommitComplete := fun _ =>
  ⟨rfl, rfl, _, rfl, rfl, fun _ _ _ => rfl⟩

end Sys2Proof.Proofs
end

section
/-! # Loops that write words, and the commands of one step (40_system.md, 41_ring_delay.md, 42_filters.md, 43_fdn.md) -/

namespace Sys2Proof.Proofs

open Sys2Proof.Machine Sys2Proof.Safety

-- Proofs one after the other: each thread of the compiler counts against the check's memory limit.
set_option Elab.async false

/-! ### A loop whose turns write at most one word each, every word at most once -/

/-- A turn `k` that is on updates the word at `idx k`, and no two such turns name the same word. -/
theorem loop_updates {α β : Type} (rd : α → Nat → β) (on : Nat → Bool) (idx : Nat → Nat) (g : Nat → β → β) (n : Nat)
    (f : Nat → α → α) (s : α)
    (hinj : ∀ c d, c < n → d < n → idx c = idx d → c = d)
    (hstep : ∀ k, k < n → ∀ j,
      rd (f k (iter k f s)) j = if on k = true ∧ j = idx k then g k (rd (iter k f s) j) else rd (iter k f s) j) :
    (∀ c, c < n → on c = true → rd (iter n f s) (idx c) = g c (rd s (idx c))) ∧
    (∀ j, (∀ c, c < n → on c = true → j ≠ idx c) → rd (iter n f s) j = rd s j) := by
  induction n with
  | zero => exact ⟨fun c hc => absurd hc (Nat.not_lt_zero c), fun j _ => rfl⟩
  | succ n ih =>
    obtain ⟨hw, hk⟩ := ih (fun c d hc hd => hinj c d (Nat.lt_succ_of_lt hc) (Nat.lt_succ_of_lt hd))
      fun k hk => hstep k (Nat.lt_succ_of_lt hk)
    have hn := hstep n (Nat.lt_succ_self n)
    refine ⟨fun c hc hon => ?_, fun j hj => ?_⟩
    · rw [iter_succ, hn]
      by_cases hcn : c = n
      · subst hcn
        rw [if_pos ⟨hon, rfl⟩, hk _ fun d hd _ he => ?_]
        exact absurd (hinj c d hc (Nat.lt_succ_of_lt hd) he) (Nat.ne_of_gt hd)
      · rw [if_neg fun h => hcn (hinj c n hc (Nat.lt_succ_self n) h.2), hw c (by omega) hon]
    · rw [iter_succ, hn, if_neg fun h => hj n (Nat.lt_succ_self n) h.1 h.2,
        hk j fun c hc => hj c (Nat.lt_succ_of_lt hc)]

/-- Turn `k` updates the word at `idx k`. -/
theorem loop_updates_all {α β : Type} (rd : α → Nat → β) (idx : Nat → Nat) (g : Nat → β → β) (n : Nat)
    (f : Nat → α → α) (s : α) (hinj : ∀ c d, c < n → d < n → idx c = idx d → c = d)
    (hstep : ∀ k, k < n → ∀ j,
      rd (f k (iter k f s)) j = if j = idx k then g k (rd (iter k f s) j) else rd (iter k f s) j) :
    (∀ c, c < n → rd (iter n f s) (idx c) = g c (rd s (idx c))) ∧
    (∀ j, (∀ c, c < n → j ≠ idx c) → rd (iter n f s) j = rd s j) := by
  obtain ⟨hw, hk⟩ := loop_updates rd (fun _ => true) idx g n f s hinj fun k hk j => by simpa using hstep k hk j
  exact ⟨fun c hc => hw c hc rfl, fun j hj => hk j fun c hc _ => hj c hc⟩

/-- Turn `k` writes word `k`. -/
theorem loop_writes {α β : Type} (rd : α → Nat → β) (w : Nat → β) (n : Nat) (f : Nat → α → α) (s : α)
    (hstep : ∀ k, k < n → ∀ j, rd (f k (iter k f s)) j = if j = k then w k else rd (iter k f s) j) (j : Nat) :
    rd (iter n f s) j = if j < n then w j else rd s j := by
  obtain ⟨hw, hk⟩ := loop_updates_all rd id (fun k _ => w k) n f s (fun _ _ _ _ h => h) hstep
  split
  · next h => exact hw j h
  · next h => exact hk j fun c hc he => h (by rw [he]; exact hc)

/-! ### Fields that completing a command leaves -/

@[simp] theorem complete_getV (s : State) (r : Nat) : s.complete.getV r = s.getV r := rfl
@[simp] theorem complete_getX (s : State) (r : Nat) : s.complete.getX r = s.getX r := rfl
@[simp] theorem complete_dmAt (s : State) (j : Nat) : s.complete.dmAt j = s.dmAt j := rfl
@[simp] theorem complete_ybufAt (s : State) (j : Nat) : s.complete.ybufAt j = s.ybufAt j := rfl
@[simp] theorem complete_z1 (s : State) (f : Nat) : s.complete.z1 f = s.z1 f := rfl
@[simp] theorem complete_z2 (s : State) (f : Nat) : s.complete.z2 f = s.z2 f := rfl
@[simp] theorem complete_yLast (s : State) (f : Nat) : s.complete.yLast f = s.yLast f := rfl
@[simp] theorem complete_sat (s : State) : s.complete.sat = s.sat := rfl

theorem errorBits_complete {s t : State} (h : errorBitsKept s t) : errorBitsKept s t.complete := h

/-! ### DEVUPD (R122) -/

theorem lengthChanged_iff {s : State} {len : Nat → Nat}
    (h : ∀ d, d < 32 → LeastPow2 (max 1 (need s d)) (len d)) :
    s.lengthChanged = true ↔ ∃ d, d < 32 ∧ len d ≠ (s.dlLen d).toNat := by
  simp only [State.lengthChanged, List.any_eq_true, List.mem_range, bne_iff_ne, ne_eq]
  constructor
  · rintro ⟨d, hd, hne⟩
    exact ⟨d, hd, by rwa [newLen_eq (h d hd)] at hne⟩
  · rintro ⟨d, hd, hne⟩
    exact ⟨d, hd, by rwa [newLen_eq (h d hd)]⟩

theorem dlLen_reallocate (s : State) {d : Nat} (hd : d < 32) : s.reallocate.dlLen d = BitVec.ofNat 32 (s.newLen d) := by
  simp [State.dlLen, State.reallocate, hd]

theorem dlBase_reallocate (s : State) {d : Nat} (hd : d < 32) :
    s.reallocate.dlBase d = BitVec.ofNat 32 (sumUpTo d s.newLen) := by
  simp [State.dlBase, State.reallocate, hd]

theorem dmAt_reallocate (s : State) (j : Nat) :
    s.reallocate.dmAt j = if j < s.newTotal then 0 else s.dmAt j := by
  unfold State.dmAt State.reallocate
  exact Memory.read_zeroFill _ _ _ _

/-- A new length of a line that fits is at most 2^31. -/
theorem newLen_le {s : State} {d : Nat} (h : need s d ≤ 2 ^ 31) : s.newLen d ≤ 2 ^ 31 :=
  (nextPow2_leastPow2 (max 1 (need s d))).2.2 31 (by omega)

/-- Settles O32. -/
theorem devupdLaysOutAndClearsTheLines : Obligations.DevupdLaysOutAndClearsTheLines := by
  intro s len hok hneed hlen htotal
  have hexec := exec_accepted (i := .devupd) (s := s) trivial (fun h => h.elim) fun _ =>
    (allocFits_iff s).mpr ⟨hneed, by rw [newTotal_eq hlen]; exact htotal⟩
  obtain ⟨-, -, ⟨-, hdm⟩, -⟩ := cfg_ok hok
  refine ⟨fun hsame => ?_, fun hdiff => ?_⟩
  · have hno : ¬ s.lengthChanged = true := fun h => by
      obtain ⟨d, hd, hne⟩ := (lengthChanged_iff hlen).mp h
      exact hne (hsame d hd)
    rw [hexec, effect, State.deviceUpdate, if_neg hno]
    rfl
  · have heff : effect .devupd s = { s.reallocate with devok := true } := by
      rw [effect, State.deviceUpdate, if_pos ((lengthChanged_iff hlen).mpr hdiff)]
    refine ⟨_, hexec, congrArg State.complete (effect_touchesOnly .devupd s), ?_⟩
    have hl : ∀ d, d < 32 → (s.reallocate.dlLen d).toNat = len d := fun d hd => by
      have := newLen_le (hneed d hd)
      rw [dlLen_reallocate s hd, BitVec.toNat_ofNat, Nat.mod_eq_of_lt (by omega), newLen_eq (hlen d hd)]
    have hb : ∀ d, d < 32 → (s.reallocate.dlBase d).toNat = sumUpTo d len := fun d hd => by
      have hle : sumUpTo d len ≤ sumUpTo 32 len := sumUpTo_mono _ (Nat.le_of_lt hd)
      rw [dlBase_reallocate s hd, sumUpTo_congr _ _ _ fun e he => newLen_eq (hlen e (by omega)), BitVec.toNat_ofNat,
        Nat.mod_eq_of_lt (by omega)]
    have hj := dmAt_reallocate s
    rw [newTotal_eq hlen] at hj
    rw [heff]
    generalize s.reallocate = u at hl hb hj
    exact ⟨fun d hd => ⟨hl d hd, hb d hd⟩, hj⟩

/-! ### LDX, ACY, XADD, MIXO (R126 to R129) -/

/-- Settles O33. -/
theorem ldxAndAcyMoveOneSampleOfABlock : Obligations.LdxAndAcyMoveOneSampleOfABlock := by
  refine ⟨fun d ch x s hwf ho => ?_, fun ch x vs s _ ho => ?_⟩
  · have hd : d < 16 := by simp [Instr.wellFormed, fitsA] at hwf; omega
    exact ⟨_, exec_of_operands ho rfl (by simp), rfl, fun r => State.getV_setV s d r _ hd⟩
  · have hnote := accumY_noted s ch (s.getX x).toNat (s.getV vs).toInt
    refine ⟨_, exec_of_operands ho rfl (by simp), congrArg State.complete (effect_touchesOnly (.acy ch x vs) s),
      fun j => ?_, hnote.errorBits, hnote.sat⟩
    refine (State.ybufAt_accumY s ch _ _ j).trans ?_
    split
    · next h => rw [h]
    · rfl

/-- Settles O35. -/
theorem xaddAdvancesModuloTwoToThe32 : Obligations.XaddAdvancesModuloTwoToThe32 := by
  intro d imm s _ hd
  refine ⟨_, exec_of_operands (i := .xadd d imm) hd rfl (by simp), rfl, fun r hr => ?_, ?_⟩
  · exact (State.getX_setX s d r _ (by omega)).trans (if_neg hr)
  · have hset : (effect (.xadd d imm) s).complete.getX d = wrapWord ((s.getX d).toNat + imm) :=
      (State.getX_setX s d d _ (by omega)).trans (if_pos rfl)
    rw [hset, wrapWord, BitVec.toNat_ofInt]
    omega

/-- Distinct channels have distinct words of the same sample. -/
theorem blockIndex_inj {b c d i j : Nat} (hi : i < b) (hj : j < b) (h : c * b + i = d * b + j) : c = d ∧ i = j := by
  have hdiv := congrArg (· / b) h
  have hmod := congrArg (· % b) h
  have hb : 0 < b := by omega
  simp only [Nat.mul_comm _ b, Nat.mul_add_div hb, Nat.div_eq_of_lt hi, Nat.div_eq_of_lt hj, Nat.mul_add_mod,
    Nat.mod_eq_of_lt hi, Nat.mod_eq_of_lt hj, Nat.add_zero] at hdiv hmod
  exact ⟨hdiv, hmod⟩

/-- The pan gain of channel `c` is above the silence threshold (R129). -/
def audible (s : State) (c : Nat) : Bool := decide (s.parQ pMSilThr < absInt (s.parQ (pMPan c)))

/-- What MIXO adds into channel `c` (R129). -/
def mixTerm (s : State) (x : Int) (c : Nat) : Int := rnd 24 (s.parQ (pMPan c) * x)

theorem mixChannel_eq (i : Nat) (x : Int) (c : Nat) (s : State) :
    s.mixChannel i x c = if audible s c then s.accumY c i (mixTerm s x c) else s := by
  simp only [State.mixChannel, audible, decide_eq_true_eq]
  rfl

section Mixo

variable (i : Nat) (x : Int) (s : State)

theorem mixLoop_touchesOnly (n : Nat) : TouchesOnly (.mixo 0 0) s (iter n (State.mixChannel i x) s) :=
  .iter fun c b => mixChannel_touchesOnly i x c b

/-- The parameters and the layout of YBUF are the same in every turn. -/
theorem mixLoop_reads (n : Nat) : audible (iter n (State.mixChannel i x) s) = audible s ∧
    mixTerm (iter n (State.mixChannel i x) s) x = mixTerm s x ∧ (iter n (State.mixChannel i x) s).cfg = s.cfg :=
  have h := mixLoop_touchesOnly i x s n
  ⟨h.field audible fun _ _ => rfl, h.field (mixTerm · x) fun _ _ => rfl, h.field State.cfg fun _ _ => rfl⟩

/-- The first `n` turns add into the words of the audible channels below `n`. -/
theorem ybufAt_mixLoop (hi : i < s.cfg.blockMax) (n : Nat) :
    (∀ c, c < n → audible s c = true → (iter n (State.mixChannel i x) s).ybufAt (c * s.cfg.blockMax + i) =
      sat32 ((s.ybufAt (c * s.cfg.blockMax + i)).toInt + mixTerm s x c)) ∧
    (∀ j, (∀ c, c < n → audible s c = true → j ≠ c * s.cfg.blockMax + i) →
      (iter n (State.mixChannel i x) s).ybufAt j = s.ybufAt j) := by
  refine loop_updates State.ybufAt (audible s) (fun c => c * s.cfg.blockMax + i)
    (fun c y => sat32 (y.toInt + mixTerm s x c)) n _ s (fun c d _ _ h => (blockIndex_inj hi hi h).1) fun k _ j => ?_
  obtain ⟨ha, ht, hc⟩ := mixLoop_reads i x s k
  rw [mixChannel_eq, ha, ht]
  by_cases hk : audible s k = true
  · rw [if_pos hk, State.ybufAt_accumY, hc]
    simp [hk]
  · rw [if_neg hk]
    simp [hk]

theorem mixLoop_noted (hi : i < s.cfg.blockMax) (n : Nat) :
    Noted ((List.range n).any fun c =>
      audible s c && clips ((s.ybufAt (c * s.cfg.blockMax + i)).toInt + mixTerm s x c)) s
      (iter n (State.mixChannel i x) s) := by
  refine Noted.iter fun k _ => ?_
  obtain ⟨ha, ht, hc⟩ := mixLoop_reads i x s k
  have hword := (ybufAt_mixLoop i x s hi k).2 (k * s.cfg.blockMax + i) fun c hc _ h =>
    absurd (blockIndex_inj hi hi h).1 (Nat.ne_of_gt hc)
  rw [mixChannel_eq, ha, ht]
  by_cases hk : audible s k = true
  · rw [if_pos hk, hk]
    refine (accumY_noted _ k i _).congr ?_
    rw [hc, hword, Bool.true_and]
  · rw [if_neg hk]
    simpa [hk] using noted_of_flags_eq rfl

end Mixo

/-- Settles O36: the turns of MIXO's loop write distinct words, each from the state before the command. -/
theorem mixoAddsThroughEveryAudibleGain : Obligations.MixoAddsThroughEveryAudibleGain := by
  intro x vs s _ ho i aud word sum
  have haud : ∀ c, aud c ↔ c < s.parU pMNch ∧ audible s c = true := fun c => by
    rw [audible, decide_eq_true_eq, absInt_eq_abs]
    exact Iff.rfl
  obtain ⟨hw, hk⟩ := ybufAt_mixLoop i (s.getV vs).toInt s ho (s.parU pMNch)
  have hnote := mixLoop_noted i (s.getV vs).toInt s ho (s.parU pMNch)
  refine ⟨_, exec_of_operands ho rfl (by simp), congrArg State.complete (effect_touchesOnly (.mixo x vs) s),
    fun c hc => ?_, fun j hj => ?_, hnote.errorBits, ?_⟩
  · obtain ⟨hn, ha⟩ := (haud c).mp hc
    exact hw c hn ha
  · exact hk j fun c hc ha => hj c ((haud c).mpr ⟨hc, ha⟩)
  · refine (Bool.eq_iff_iff.mp hnote.sat).trans ?_
    simp only [Bool.or_eq_true, any_range_iff, Bool.and_eq_true, haud, and_assoc]
    exact Iff.rfl

end Sys2Proof.Proofs
end

section
/-! # Ring delay, filter taps, mixing matrices and the butterfly (41_ring_delay.md to 44_phase_vocoder.md) -/

namespace Sys2Proof.Proofs

open Sys2Proof.Machine Sys2Proof.Safety

-- Proofs one after the other: each thread of the compiler counts against the check's memory limit.
set_option Elab.async false

/-! ### Ring delay (R141 to R143) -/

theorem exec_line {i : Instr} {s : State} (ho : operandsExist i s) (hd : s.devok = true) (hi : i ≠ .devupd) :
    exec i s = .next (effect i s).complete := exec_accepted ho (fun _ => hd) fun h => absurd h hi

/-- Settles O37. -/
theorem ringCommandsReadAndWriteTheLine : Obligations.RingCommandsReadAndWriteTheLine := by
  intro d line x q vs s hwf hdev
  have hd : d < 16 := by simp [Instr.wellFormed, fitsA] at hwf; omega
  refine ⟨⟨_, exec_line (i := .rdwr line x vs) trivial hdev (by simp), rfl, fun j => ?_⟩,
    ⟨_, exec_line (i := .rdrd d line x) trivial hdev (by simp), rfl, fun r => ?_⟩,
    ⟨_, exec_line (i := .rdrtw d line x q vs) trivial hdev (by simp), rfl, fun j => ?_, fun r => ?_⟩⟩
  · exact State.dmAt_ringWrite s line _ _ j
  · exact State.getV_setV s d r _ hd
  · exact State.dmAt_ringWrite s line _ _ j
  · exact State.getV_setV (s.ringWrite line (s.getX x) (s.getV vs)) d r _ hd

/-! ### What the register and memory updates leave -/

@[simp] theorem noteSat_getV (s : State) (b : Bool) (r : Nat) : (s.noteSat b).getV r = s.getV r := rfl
@[simp] theorem noteSat_z1 (s : State) (b : Bool) (f : Nat) : (s.noteSat b).z1 f = s.z1 f := rfl
@[simp] theorem noteSat_z2 (s : State) (b : Bool) (f : Nat) : (s.noteSat b).z2 f = s.z2 f := rfl
@[simp] theorem noteSat_yLast (s : State) (b : Bool) (f : Nat) : (s.noteSat b).yLast f = s.yLast f := rfl
@[simp] theorem noteSat_dmAt (s : State) (b : Bool) (j : Nat) : (s.noteSat b).dmAt j = s.dmAt j := rfl
@[simp] theorem noteSat_ybufAt (s : State) (b : Bool) (j : Nat) : (s.noteSat b).ybufAt j = s.ybufAt j := rfl
@[simp] theorem setTwoPole_getV (s : State) (f : Nat) (a b c : Word) (r : Nat) :
    (s.setTwoPole f a b c).getV r = s.getV r := rfl
@[simp] theorem setOnePole_getV (s : State) (f : Nat) (a b : Word) (r : Nat) :
    (s.setOnePole f a b).getV r = s.getV r := rfl
@[simp] theorem ringWrite_getV (s : State) (d : Nat) (o w : Word) (r : Nat) :
    (s.ringWrite d o w).getV r = s.getV r := rfl
@[simp] theorem ringWrite_z1 (s : State) (d : Nat) (o w : Word) (f : Nat) : (s.ringWrite d o w).z1 f = s.z1 f := rfl
@[simp] theorem ringWrite_yLast (s : State) (d : Nat) (o w : Word) (f : Nat) :
    (s.ringWrite d o w).yLast f = s.yLast f := rfl
@[simp] theorem setV_z1 (s : State) (i : Nat) (w : Word) (f : Nat) : (s.setV i w).z1 f = s.z1 f := rfl
@[simp] theorem setV_z2 (s : State) (i : Nat) (w : Word) (f : Nat) : (s.setV i w).z2 f = s.z2 f := rfl
@[simp] theorem setV_yLast (s : State) (i : Nat) (w : Word) (f : Nat) : (s.setV i w).yLast f = s.yLast f := rfl
@[simp] theorem setV_dmAt (s : State) (i : Nat) (w : Word) (j : Nat) : (s.setV i w).dmAt j = s.dmAt j := rfl

/-! ### The two-pole tap (R150) -/

theorem bq2Step_fst (f : Nat) (x : Int) (s : State) :
    (bq2Step f x s).1 = (tap (coeffs s f) (history s f) x).y := rfl

/-- The two-pole step stores the tap's history and notes the tap's clips. -/
theorem bq2Step_snd (f : Nat) (x : Int) (s : State) :
    (bq2Step f x s).2 = (s.setTwoPole f (tap (coeffs s f) (history s f) x).z1 (tap (coeffs s f) (history s f) x).z2
      (tap (coeffs s f) (history s f) x).y).noteSat (tapClips (coeffs s f) (history s f) x) := rfl

theorem history_bq2Step {f : Nat} (hf : f < 16) (x : Int) (s : State) (g : Nat) :
    history (bq2Step f x s).2 g = if g = f then tap (coeffs s f) (history s f) x else history s g := by
  rw [bq2Step_snd]
  generalize tap (coeffs s f) (history s f) x = h
  simp only [history, noteSat_z1, noteSat_z2, noteSat_yLast, State.z1_setTwoPole s f g _ _ _ hf,
    State.z2_setTwoPole s f g _ _ _ hf, State.yLast_setTwoPole s f g _ _ _ hf]
  split <;> rfl

theorem bq2Step_notes (f : Nat) (x : Int) (s : State) :
    Noted (tapClips (coeffs s f) (history s f) x) s (bq2Step f x s).2 := bq2Step_noted f x s

/-! ### The one-pole tap (R151) -/

/-- The output of R151 before it is narrowed. -/
def poleOut (s : State) (f : Nat) (x : Int) : Int := rnd 24 (s.parQ (8 * f) * x + (s.z1 f).toInt * 2 ^ 24)

/-- The new BQZ1 of R151 before it is narrowed. -/
def poleNext (s : State) (f : Nat) (x : Int) : Int :=
  rnd 24 (s.parQ (8 * f + 1) * x - s.parQ (8 * f + 3) * (sat32 (poleOut s f x)).toInt)

theorem bq1Step_eq (f : Nat) (x : Int) (s : State) :
    bq1Step f x s = (sat32 (poleOut s f x), (s.setOnePole f (sat32 (poleNext s f x)) (sat32 (poleOut s f x))).noteSat
      (clips (poleOut s f x) || clips (poleNext s f x))) := rfl

/-- Settles O38. -/
theorem biquadTapsFollowTheirEquations : Obligations.BiquadTapsFollowTheirEquations := by
  intro d f vs s hwf hf x y yw n1 m1 n2
  have hd : d < 16 := by simp [Instr.wellFormed, fitsA] at hwf; omega
  have hfr2 := effect_touchesOnly (.bq2 d f vs) s
  have hfr1 := effect_touchesOnly (.bq1 d f vs) s
  have heff2 : effect (.bq2 d f vs) s = ((s.setTwoPole f (sat32 n1) (sat32 n2) (sat32 y)).noteSat
    (clips y || clips n1 || clips n2)).setV d (sat32 y) := rfl
  have heff1 : effect (.bq1 d f vs) s = ((s.setOnePole f (sat32 m1) (sat32 y)).noteSat
    (clips y || clips m1)).setV d (sat32 y) := rfl
  refine ⟨⟨_, exec_of_operands (i := .bq2 d f vs) hf rfl (by simp), congrArg State.complete hfr2, ?_⟩,
    ⟨_, exec_of_operands (i := .bq1 d f vs) hf rfl (by simp), congrArg State.complete hfr1, ?_⟩⟩
  · have hnote : Noted (clips y || clips n1 || clips n2) s (effect (.bq2 d f vs) s) := by rw [heff2]; rfl
    refine ⟨fun r => ?_, fun g => ?_, fun g => ?_, fun g => ?_, hnote.errorBits, ?_⟩
    · simp only [complete_getV, heff2, State.getV_setV _ d r _ hd, noteSat_getV, setTwoPole_getV]
    · simp only [complete_z1, heff2, setV_z1, noteSat_z1, State.z1_setTwoPole s f g _ _ _ hf]
    · simp only [complete_z2, heff2, setV_z2, noteSat_z2, State.z2_setTwoPole s f g _ _ _ hf]
    · simp only [complete_yLast, heff2, setV_yLast, noteSat_yLast, State.yLast_setTwoPole s f g _ _ _ hf]
    · simpa only [complete_sat, Bool.or_assoc] using hnote.sat
  · have hnote : Noted (clips y || clips m1) s (effect (.bq1 d f vs) s) := by rw [heff1]; rfl
    refine ⟨fun r => ?_, fun g => ?_, fun g => ?_, hnote.errorBits, ?_⟩
    · simp only [complete_getV, heff1, State.getV_setV _ d r _ hd, noteSat_getV, setOnePole_getV]
    · simp only [complete_z1, heff1, setV_z1, noteSat_z1, State.z1_setOnePole s f g _ _ hf]
    · simp only [complete_yLast, heff1, setV_yLast, noteSat_yLast, State.yLast_setOnePole s f g _ _ hf]
    · simpa only [complete_sat, Bool.or_assoc] using hnote.sat

/-! ### The all-pass tap (R153) -/

/-- The output of R153 before it is narrowed. -/
def allPassOut (s : State) (a : Nat) (o : Word) (x : Int) : Int :=
  rnd 24 ((s.ringRead (s.parU (pApLine a)) (o - s.par (pApDly a))).toInt * 2 ^ 24 - s.parQ (pApG a) * x)

/-- The word R153 feeds into the line, before it is narrowed. -/
def allPassFeed (s : State) (a : Nat) (o : Word) (x : Int) : Int :=
  rnd 24 (x * 2 ^ 24 + s.parQ (pApG a) * (sat32 (allPassOut s a o x)).toInt)

theorem apStep_eq (a : Nat) (o : Word) (x : Int) (s : State) :
    apStep a o x s = (sat32 (allPassOut s a o x),
      (s.ringWrite (s.parU (pApLine a)) o (sat32 (allPassFeed s a o x))).noteSat
        (clips (allPassOut s a o x) || clips (allPassFeed s a o x))) := rfl

/-- Settles O39. -/
theorem allPassTapFollowsItsEquations : Obligations.AllPassTapFollowsItsEquations := by
  intro d a o vs s hwf ha hdev x line g r y w
  have hd : d < 16 := by simp [Instr.wellFormed, fitsA] at hwf; omega
  have hfr := effect_touchesOnly (.ap d a o vs) s
  have hline : s.parU (pApLine a) = line := rfl
  have hdly : pApDly a = 0x81 + 4 * a := by rw [pApDly]; omega
  have hg : s.parQ (pApG a) = g := congrArg s.parQ (by rw [pApG]; omega)
  have heff : effect (.ap d a o vs) s = ((s.ringWrite line (s.getX o) (sat32 w)).noteSat (clips y || clips w)).setV d
    (sat32 y) := by
    have hy : allPassOut s a (s.getX o) x = y := by simp only [allPassOut, hline, hdly, hg]; rfl
    have hw : allPassFeed s a (s.getX o) x = w := by simp only [allPassFeed, hy, hg]; rfl
    rw [effect, apStep_eq, hy, hw, hline]
    rfl
  have hnote : Noted (clips y || clips w) s (effect (.ap d a o vs) s) := by rw [heff]; rfl
  refine ⟨_, exec_line (i := .ap d a o vs) ha hdev (by simp), congrArg State.complete hfr, fun k => ?_, fun j => ?_,
    hnote.errorBits, ?_⟩
  · simp only [complete_getV, heff, State.getV_setV _ d k _ hd, noteSat_getV, ringWrite_getV]
  · simp only [complete_dmAt, heff, setV_dmAt, noteSat_dmAt, State.dmAt_ringWrite]
  · simpa only [complete_sat, Bool.or_assoc] using hnote.sat

/-! ### The block biquad (R154) -/

section BlockBiquad

variable (f ci co : Nat) (s : State)

/-- The samples of the input channel. -/
def blockInput (k : Nat) : Int := (s.xbufAt (ci * s.cfg.blockMax + k)).toInt

theorem bqLoop_touchesOnly (n : Nat) : TouchesOnly (.bqblk f ci co n) s (iter n (bqBlockSample f ci co) s) :=
  effect_touchesOnly (.bqblk f ci co n) s

theorem bqLoop_reads (n : Nat) : coeffs (iter n (bqBlockSample f ci co) s) f = coeffs s f ∧
    blockInput ci (iter n (bqBlockSample f ci co) s) = blockInput ci s ∧
    (iter n (bqBlockSample f ci co) s).cfg = s.cfg :=
  have h := bqLoop_touchesOnly f ci co s n
  ⟨h.field (coeffs · f) fun _ _ => rfl, h.field (blockInput ci) fun _ _ => rfl, h.field State.cfg fun _ _ => rfl⟩

theorem bqBlockSample_eq (k : Nat) : bqBlockSample f ci co k s =
    (bq2Step f (blockInput ci s k) s).2.accumY co k (tap (coeffs s f) (history s f) (blockInput ci s k)).y.toInt := by
  unfold bqBlockSample
  dsimp only
  rw [bq2Step_fst]
  rfl

theorem history_accumY (c i : Nat) (v : Int) (g : Nat) : history (s.accumY c i v) g = history s g := by
  cases s
  rfl

/-- The history runs through the samples, and no other bank's history changes. -/
theorem history_bqLoop (hf : f < 16) (n g : Nat) : history (iter n (bqBlockSample f ci co) s) g =
    if g = f then tapRun (coeffs s f) (history s f) (blockInput ci s) n else history s g := by
  induction n with
  | zero => split <;> simp_all [tapRun]
  | succ n ih =>
    obtain ⟨hco, hin, -⟩ := bqLoop_reads f ci co s n
    rw [iter_succ, bqBlockSample_eq, history_accumY, history_bq2Step hf, hco, hin]
    by_cases hg : g = f
    · subst hg
      rw [if_pos rfl, if_pos rfl, ih, if_pos rfl, tapRun]
    · rw [if_neg hg, if_neg hg, ih, if_neg hg]

/-- The output of sample `k`. -/
def bqOutput (k : Nat) : Int := (tapRun (coeffs s f) (history s f) (blockInput ci s) (k + 1)).y.toInt

theorem bqOutput_eq (hf : f < 16) (k : Nat) :
    (tap (coeffs (iter k (bqBlockSample f ci co) s) f) (history (iter k (bqBlockSample f ci co) s) f)
      (blockInput ci (iter k (bqBlockSample f ci co) s) k)).y.toInt = bqOutput f ci s k := by
  obtain ⟨hco, hin, -⟩ := bqLoop_reads f ci co s k
  rw [hco, hin, history_bqLoop f ci co s hf, if_pos rfl, bqOutput, tapRun]

theorem ybufAt_bq2Step (x : Int) (j : Nat) : (bq2Step f x s).2.ybufAt j = s.ybufAt j := rfl

theorem cfg_bq2Step (x : Int) : (bq2Step f x s).2.cfg = s.cfg := rfl

theorem ybufAt_bqLoop (hf : f < 16) (n : Nat) :
    (∀ k, k < n → (iter n (bqBlockSample f ci co) s).ybufAt (co * s.cfg.blockMax + k) =
      sat32 ((s.ybufAt (co * s.cfg.blockMax + k)).toInt + bqOutput f ci s k)) ∧
    (∀ j, (∀ k, k < n → j ≠ co * s.cfg.blockMax + k) →
      (iter n (bqBlockSample f ci co) s).ybufAt j = s.ybufAt j) := by
  refine loop_updates_all State.ybufAt (fun k => co * s.cfg.blockMax + k)
    (fun k y => sat32 (y.toInt + bqOutput f ci s k)) n _ s (fun c d _ _ h => by omega) fun k _ j => ?_
  rw [bqBlockSample_eq, State.ybufAt_accumY, bqOutput_eq f ci co s hf, ybufAt_bq2Step, cfg_bq2Step,
    (bqLoop_reads f ci co s k).2.2]

theorem bqLoop_noted (hf : f < 16) (n : Nat) :
    Noted ((List.range n).any fun k =>
      tapClips (coeffs s f) (tapRun (coeffs s f) (history s f) (blockInput ci s) k) (blockInput ci s k) ||
        clips ((s.ybufAt (co * s.cfg.blockMax + k)).toInt + bqOutput f ci s k)) s
      (iter n (bqBlockSample f ci co) s) := by
  refine Noted.iter fun k _ => ?_
  obtain ⟨hco, hin, hcfg⟩ := bqLoop_reads f ci co s k
  have hword := (ybufAt_bqLoop f ci co s hf k).2 (co * s.cfg.blockMax + k) fun c hc h => by omega
  rw [bqBlockSample_eq, bqOutput_eq f ci co s hf]
  refine ((bq2Step_notes f _ _).trans (accumY_noted _ co k _)).congr ?_
  rw [ybufAt_bq2Step, cfg_bq2Step, hcfg, hword, hco, hin, history_bqLoop f ci co s hf, if_pos rfl]

end BlockBiquad

/-- Settles O40: the history runs through the block, and every sample's output is added into its own word. -/
theorem blockBiquadFiltersAndAccumulates : Obligations.BlockBiquadFiltersAndAccumulates := by
  intro f ci co n s _ ho input hist word sum
  have hf : f < 16 := ho.1
  obtain ⟨hw, hk⟩ := ybufAt_bqLoop f ci co s hf n
  have hnote := bqLoop_noted f ci co s hf n
  have hh := history_bqLoop f ci co s hf n
  refine ⟨_, exec_of_operands ho rfl (by simp), congrArg State.complete (effect_touchesOnly (.bqblk f ci co n) s),
    hw, hk, (hh f).trans (if_pos rfl), fun g hg => (hh g).trans (if_neg hg), hnote.errorBits, ?_⟩
  refine (Bool.eq_iff_iff.mp hnote.sat).trans ?_
  simp only [Bool.or_eq_true, any_range_iff]
  exact Iff.rfl

end Sys2Proof.Proofs
end

section
/-! # Mixing matrices and the reverb loop (43_fdn.md), and where a line access goes (41_ring_delay.md R140) -/

namespace Sys2Proof.Proofs

open Sys2Proof.Machine Sys2Proof.Safety

-- Proofs one after the other: each thread of the compiler counts against the check's memory limit.
set_option Elab.async false

/-! ### What writing a group of lanes leaves -/

@[simp] theorem setLanes_z1 (s : State) (d : Nat) (l : Lanes) (f : Nat) : (s.setLanes d l).z1 f = s.z1 f := by
  simp only [State.setLanes, setV_z1]

@[simp] theorem setLanes_yLast (s : State) (d : Nat) (l : Lanes) (f : Nat) :
    (s.setLanes d l).yLast f = s.yLast f := by
  simp only [State.setLanes, setV_yLast]

@[simp] theorem setLanes_dmAt (s : State) (d : Nat) (l : Lanes) (j : Nat) : (s.setLanes d l).dmAt j = s.dmAt j := by
  simp only [State.setLanes, setV_dmAt]

@[simp] theorem setLanes_flags (s : State) (d : Nat) (l : Lanes) : (s.setLanes d l).flags = s.flags := by
  simp only [State.setLanes, State.setV_flags]

/-! ### The mixing matrices (R160, R161) -/

/-- What HHMIX and ROTMIX leave: the four narrowed lanes, every other tap register, and SAT. -/
theorem putLanes_result (d : Nat) (e : ExactLanes) (s : State) (hd : d ≤ 12) :
    (s.putLanes d e).getV d = sat32 e.e0 ∧ (s.putLanes d e).getV (d + 1) = sat32 e.e1 ∧
    (s.putLanes d e).getV (d + 2) = sat32 e.e2 ∧ (s.putLanes d e).getV (d + 3) = sat32 e.e3 ∧
    (∀ r, r < d ∨ d + 3 < r → (s.putLanes d e).getV r = s.getV r) ∧ errorBitsKept s (s.putLanes d e) ∧
    (s.putLanes d e).sat = (s.sat || clips e.e0 || clips e.e1 || clips e.e2 || clips e.e3) := by
  have hv : ∀ r, (s.putLanes d e).getV r = (s.setLanes d e.words).getV r := fun r => by
    rw [State.putLanes, noteSat_getV]
  obtain ⟨h0, h1, h2, h3, hr⟩ := State.getV_setLanes s d e.words hd
  have hnote := putLanes_noted d e s
  simp only [hv]
  refine ⟨h0, h1, h2, h3, hr, hnote.errorBits, ?_⟩
  rw [hnote.sat, ExactLanes.clip]
  simp only [Bool.or_assoc]

/-- Settles O41. -/
theorem mixingMatricesFollowTheirRows : Obligations.MixingMatricesFollowTheirRows := by
  intro d vs s hd hvs f0 f1 f2 f3 v x y writes
  have hwrites : ∀ e, s.putLanes d e = graft (.hhmix d vs) (s.putLanes d e) s →
      writes (s.putLanes d e).complete e.e0 e.e1 e.e2 e.e3 := fun e hfr => by
    have hres := putLanes_result d e s hd
    generalize s.putLanes d e = u at hfr hres
    exact ⟨congrArg State.complete hfr, hres⟩
  exact ⟨⟨_, exec_of_operands (i := .hhmix d vs) ⟨hd, hvs⟩ rfl (by simp),
      hwrites (householder (s.lanes vs)) (effect_touchesOnly (.hhmix d vs) s)⟩,
    ⟨_, exec_of_operands (i := .rotmix d vs) ⟨hd, hvs⟩ rfl (by simp),
      hwrites (Machine.rotation (s.parQ pMixX) (s.parQ pMixY) (s.lanes vs)) (effect_touchesOnly (.rotmix d vs) s)⟩⟩

/-! ### Where a line access goes (R140) -/

/-- The offset is taken modulo the length, a power of two. -/
theorem and_pow2_sub_one {len : Word} {k : Nat} (hk : len.toNat = 2 ^ k) (o : Word) :
    (o &&& (len - 1)).toNat = o.toNat % len.toNat := by
  have hpos : 0 < 2 ^ k := Nat.two_pow_pos k
  have hsub : (len - 1).toNat = 2 ^ k - 1 := by
    rw [← hk]
    bv_omega
  rw [BitVec.toNat_and, hsub, Nat.and_two_pow_sub_one_eq_mod, hk]

theorem lineOffset_succ (s : State) (d : Nat) : lineOffset s (d + 1) = lineOffset s d + (s.dlLen d).toNat :=
  sumUpTo_succ _ _

theorem ringIndex_eq {s : State} (h : LinesPacked s) (hdev : s.devok = true) {d : Nat} (hd : d < 32) (o : Word) :
    s.ringIndex d o = lineOffset s d + o.toNat % (s.dlLen d).toNat := by
  obtain ⟨k, -, hk⟩ := (h.length d hd).resolve_left (h.allocated hdev d hd)
  rw [State.ringIndex, h.base d hd, and_pow2_sub_one hk]

theorem ringIndex_mem {s : State} (h : LinesPacked s) (hdev : s.devok = true) {d : Nat} (hd : d < 32) (o : Word) :
    lineOffset s d ≤ s.ringIndex d o ∧ s.ringIndex d o < lineOffset s (d + 1) := by
  have hpos := Nat.mod_lt o.toNat (Nat.pos_of_ne_zero (h.allocated hdev d hd))
  rw [ringIndex_eq h hdev hd, lineOffset_succ]
  omega

/-- Accesses of different lines go to different words. -/
theorem ringIndex_ne {s : State} (h : LinesPacked s) (hdev : s.devok = true) {d e : Nat} (hd : d < 32) (he : e < 32)
    (hne : d ≠ e) (o p : Word) : s.ringIndex d o ≠ s.ringIndex e p := by
  have hmd := ringIndex_mem h hdev hd o
  have hme := ringIndex_mem h hdev he p
  rcases Nat.lt_or_gt_of_ne hne with hlt | hlt
  · have : lineOffset s (d + 1) ≤ lineOffset s e := sumUpTo_mono _ hlt
    omega
  · have : lineOffset s (e + 1) ≤ lineOffset s d := sumUpTo_mono _ hlt
    omega

/-- A word below the cleared bound does not depend on the free value. -/
theorem read_of_lt_zeroed {w : Nat} {m : Memory w} {a : Nat} (h : a < m.zeroed) (free : BitVec w) :
    m.read free a = m.read 0 a := by
  unfold Memory.read
  simp only [h, if_true]

/-- Settles O24. -/
theorem ringAccessesStayInTheirOwnClearedLine : Obligations.RingAccessesStayInTheirOwnClearedLine := by
  intro s d o h hdev hd
  have hmem := ringIndex_mem h hdev hd o
  refine ⟨ringIndex_eq h hdev hd o, hmem.1, hmem.2, fun hcl => read_of_lt_zeroed ?_ _⟩
  have htop : lineOffset s (d + 1) ≤ lineOffset s 32 := sumUpTo_mono _ (by omega)
  exact Nat.lt_of_lt_of_le hmem.2 (Nat.le_trans htop hcl)

end Sys2Proof.Proofs
end

section
/-! # The reverb loop (43_fdn.md R163) -/

namespace Sys2Proof.Proofs

open Sys2Proof.Machine Sys2Proof.Safety

-- Proofs one after the other: each thread of the compiler counts against the check's memory limit.
set_option Elab.async false

/-! ### One lane -/

section Lane

variable (c : Nat) (o x : Word) (q : State)

/-- The input of lane `c`'s damper before it is narrowed: the density gain and the feedback of R163. -/
def laneIn : Int :=
  rnd 24 (q.parQ pDens * x.toInt) + (q.ringRead (q.parU (pFLine c)) (o - q.par (pFDly c))).toInt

/-- The damper's output of lane `c` before it is narrowed. -/
def laneDamped : Int := poleOut q (q.parU (pFDamp c)) (sat32 (laneIn c o x q)).toInt

/-- The damper's new BQZ1 of lane `c` before it is narrowed. -/
def laneNext : Int := poleNext q (q.parU (pFDamp c)) (sat32 (laneIn c o x q)).toInt

/-- The output of lane `c` before it is narrowed. -/
def laneOut : Int := allPassOut q (q.parU (pFAp c)) o (sat32 (laneDamped c o x q)).toInt

/-- The word lane `c` feeds into its all-pass line, before it is narrowed. -/
def laneFeed : Int := allPassFeed q (q.parU (pFAp c)) o (sat32 (laneDamped c o x q)).toInt

theorem laneNext_eq : laneNext c o x q = rnd 24 (q.parQ (8 * q.parU (pFDamp c) + 1) * (sat32 (laneIn c o x q)).toInt -
    q.parQ (8 * q.parU (pFDamp c) + 3) * (sat32 (laneDamped c o x q)).toInt) := by
  rw [laneNext, poleNext, laneDamped]

theorem laneFeed_eq : laneFeed c o x q = rnd 24 ((sat32 (laneDamped c o x q)).toInt * 2 ^ 24 +
    q.parQ (pApG (q.parU (pFAp c))) * (sat32 (laneOut c o x q)).toInt) := by
  rw [laneFeed, allPassFeed, laneOut]

/-- Does any narrowing of lane `c` clip? -/
def laneClips : Bool :=
  clips (laneIn c o x q) || clips (laneDamped c o x q) || clips (laneNext c o x q) || clips (laneOut c o x q) ||
    clips (laneFeed c o x q)

theorem allPassOut_damped (b e : Bool) (f a : Nat) (n y : Word) (v : Int) :
    allPassOut (((q.noteSat b).setOnePole f n y).noteSat e) a o v = allPassOut q a o v := by
  cases q
  rfl

theorem allPassFeed_damped (b e : Bool) (f a : Nat) (n y : Word) (v : Int) :
    allPassFeed (((q.noteSat b).setOnePole f n y).noteSat e) a o v = allPassFeed q a o v := by
  rw [allPassFeed, allPassOut_damped]
  cases q
  rfl

/-- Lane `c`: the damper's history, the fed word and SAT are written, and the lane's word is its output. -/
theorem fdnLane_eq : fdnLane c o x q =
    (sat32 (laneOut c o x q),
      ((((q.noteSat (clips (laneIn c o x q))).setOnePole (q.parU (pFDamp c)) (sat32 (laneNext c o x q))
        (sat32 (laneDamped c o x q))).noteSat (clips (laneDamped c o x q) || clips (laneNext c o x q))).ringWrite
        (q.parU (pApLine (q.parU (pFAp c)))) o (sat32 (laneFeed c o x q))).noteSat
        (clips (laneOut c o x q) || clips (laneFeed c o x q))) := by
  unfold fdnLane
  dsimp only
  rw [bq1Step_eq, apStep_eq, allPassOut_damped, allPassFeed_damped]
  rfl

end Lane

/-! ### The state between two lanes -/

section Lanes

variable (o : Word) (x : Nat → Word) (s : State)

/-- The state before lane `n`. -/
def laneState (n : Nat) : State := iter n (fun c q => (fdnLane c o (x c) q).2) s

theorem laneState_succ (n : Nat) : laneState o x s (n + 1) = (fdnLane n o (x n) (laneState o x s n)).2 := rfl

theorem laneState_touchesOnly (n : Nat) : TouchesOnly (.fdnstep 0 0 0) s (laneState o x s n) :=
  .iter fun c b => fdnLane_touchesOnly c o (x c) b

/-- The parameters and the layout of the lines are the same before every lane. -/
theorem laneState_reads (n : Nat) :
    (laneState o x s n).par = s.par ∧ (laneState o x s n).ringIndex = s.ringIndex :=
  have h := laneState_touchesOnly o x s n
  ⟨h.field State.par fun _ _ => rfl, h.field State.ringIndex fun _ _ => rfl⟩

theorem z1_lane (q : State) (c : Nat) (w : Word) (f : Nat) : (fdnLane c o w q).2.z1 f =
    (q.setOnePole (q.parU (pFDamp c)) (sat32 (laneNext c o w q)) (sat32 (laneDamped c o w q))).z1 f := by
  rw [fdnLane_eq]
  rfl

theorem yLast_lane (q : State) (c : Nat) (w : Word) (f : Nat) : (fdnLane c o w q).2.yLast f =
    (q.setOnePole (q.parU (pFDamp c)) (sat32 (laneNext c o w q)) (sat32 (laneDamped c o w q))).yLast f := by
  rw [fdnLane_eq]
  rfl

theorem dmAt_lane (q : State) (c : Nat) (w : Word) (j : Nat) : (fdnLane c o w q).2.dmAt j =
    if j = q.ringIndex (q.parU (pApLine (q.parU (pFAp c)))) o then sat32 (laneFeed c o w q) else q.dmAt j := by
  rw [fdnLane_eq]
  exact State.dmAt_ringWrite q _ o _ j

theorem noted_lane (q : State) (c : Nat) (w : Word) : Noted (laneClips c o w q) q (fdnLane c o w q).2 := by
  rw [fdnLane_eq]
  refine Noted.congr (((noted_noteSat _ q).trans (t := (q.noteSat _)) ((noted_noteSat _ _).trans
    (t := ((q.noteSat _).setOnePole _ _ _).noteSat _) (noted_noteSat _ _)))) ?_
  simp only [laneClips, Bool.or_assoc]

/-- A lane's words, read through the parameters and line layout of the state before the command. -/
theorem lane_values (n c : Nat) (w : Word) :
    laneIn c o w (laneState o x s n) = rnd 24 (s.parQ pDens * w.toInt) +
      ((laneState o x s n).dmAt (s.ringIndex (s.parU (pFLine c)) (o - s.par (pFDly c)))).toInt ∧
    laneDamped c o w (laneState o x s n) = rnd 24 (s.parQ (8 * s.parU (pFDamp c)) *
      (sat32 (laneIn c o w (laneState o x s n))).toInt +
      ((laneState o x s n).z1 (s.parU (pFDamp c))).toInt * 2 ^ 24) ∧
    laneNext c o w (laneState o x s n) = rnd 24 (s.parQ (8 * s.parU (pFDamp c) + 1) *
      (sat32 (laneIn c o w (laneState o x s n))).toInt - s.parQ (8 * s.parU (pFDamp c) + 3) *
      (sat32 (laneDamped c o w (laneState o x s n))).toInt) ∧
    laneOut c o w (laneState o x s n) = rnd 24 (((laneState o x s n).dmAt (s.ringIndex
      (s.parU (pApLine (s.parU (pFAp c)))) (o - s.par (pApDly (s.parU (pFAp c)))))).toInt * 2 ^ 24 -
      s.parQ (pApG (s.parU (pFAp c))) * (sat32 (laneDamped c o w (laneState o x s n))).toInt) ∧
    laneFeed c o w (laneState o x s n) = rnd 24 ((sat32 (laneDamped c o w (laneState o x s n))).toInt * 2 ^ 24 +
      s.parQ (pApG (s.parU (pFAp c))) * (sat32 (laneOut c o w (laneState o x s n))).toInt) := by
  obtain ⟨hpar, hring⟩ := laneState_reads o x s n
  generalize laneState o x s n = q at hpar hring
  have hQ : q.parQ = s.parQ := by funext p; rw [State.parQ, State.parQ, hpar]
  have hU : q.parU = s.parU := by funext p; rw [State.parU, State.parU, hpar]
  refine ⟨?_, ?_, ?_, ?_, ?_⟩
  · rw [laneIn, State.ringRead, hQ, hU, hpar, hring]
  · rw [laneDamped, poleOut, hQ, hU]
  · rw [laneNext_eq, hQ, hU]
  · rw [laneOut, allPassOut, State.ringRead, hQ, hU, hpar, hring]
  · rw [laneFeed_eq, hQ, hU]

theorem parU_laneState (n p : Nat) : (laneState o x s n).parU p = s.parU p := by
  rw [State.parU, (laneState_reads o x s n).1, State.parU]

/-- A lane feeds one word of its all-pass line. -/
theorem dmAt_laneState_succ (n j : Nat) : (laneState o x s (n + 1)).dmAt j =
    if j = s.ringIndex (s.parU (pApLine (s.parU (pFAp n)))) o then sat32 (laneFeed n o (x n) (laneState o x s n))
    else (laneState o x s n).dmAt j := by
  rw [laneState_succ, dmAt_lane, parU_laneState, parU_laneState, (laneState_reads o x s n).2]

/-- A lane writes the history of its own damper. -/
theorem z1_laneState_succ {n : Nat} (hf : s.parU (pFDamp n) < 16) (f : Nat) : (laneState o x s (n + 1)).z1 f =
    if f = s.parU (pFDamp n) then sat32 (laneNext n o (x n) (laneState o x s n)) else (laneState o x s n).z1 f := by
  rw [laneState_succ, z1_lane, parU_laneState, State.z1_setOnePole _ _ _ _ _ hf]

theorem yLast_laneState_succ {n : Nat} (hf : s.parU (pFDamp n) < 16) (f : Nat) : (laneState o x s (n + 1)).yLast f =
    if f = s.parU (pFDamp n) then sat32 (laneDamped n o (x n) (laneState o x s n))
    else (laneState o x s n).yLast f := by
  rw [laneState_succ, yLast_lane, parU_laneState, State.yLast_setOnePole _ _ _ _ _ hf]

/-- The bank of a damper that is named by no lane keeps its history, whatever the parameters are. -/
theorem history_laneState_other (n f : Nat) (h : ∀ c, c < n → f ≠ s.parU (pFDamp c)) :
    (laneState o x s n).z1 f = s.z1 f ∧ (laneState o x s n).yLast f = s.yLast f := by
  induction n with
  | zero => exact ⟨rfl, rfl⟩
  | succ n ih =>
    obtain ⟨hz, hy⟩ := ih fun c hc => h c (Nat.lt_succ_of_lt hc)
    have hne : s.parU (pFDamp n) ≠ f := (h n (Nat.lt_succ_self n)).symm
    rw [laneState_succ, z1_lane, yLast_lane, parU_laneState, ← hz, ← hy]
    exact ⟨congrArg (Option.getD · 0) (Vector.getElem?_setIfInBounds_ne hne),
      congrArg (Option.getD · 0) (Vector.getElem?_setIfInBounds_ne hne)⟩

/-- A word of DM that no lane feeds is as before. -/
theorem dmAt_laneState_other (n j : Nat)
    (h : ∀ c, c < n → j ≠ s.ringIndex (s.parU (pApLine (s.parU (pFAp c)))) o) :
    (laneState o x s n).dmAt j = s.dmAt j := by
  induction n with
  | zero => rfl
  | succ n ih =>
    rw [dmAt_laneState_succ, if_neg (h n (Nat.lt_succ_self n)), ih fun c hc => h c (Nat.lt_succ_of_lt hc)]

theorem noted_laneState (n : Nat) :
    Noted ((List.range n).any fun c => laneClips c o (x c) (laneState o x s c)) s (laneState o x s n) :=
  Noted.iter fun k _ => noted_lane o (laneState o x s k) k (x k)

theorem sat_laneState_succ (n : Nat) :
    (laneState o x s (n + 1)).sat = ((laneState o x s n).sat || laneClips n o (x n) (laneState o x s n)) :=
  (noted_lane o (laneState o x s n) n (x n)).sat

end Lanes

/-! ### The whole command -/

/-- The rotated lanes close the four cyclical lines, the last lane last. -/
theorem dmAt_fdnClose (o : Word) (m : Lanes) (q : State) (j : Nat) : (fdnClose o m q).dmAt j =
    if j = q.ringIndex (q.parU (pFLine 3)) o then m.l3 else if j = q.ringIndex (q.parU (pFLine 2)) o then m.l2
    else if j = q.ringIndex (q.parU (pFLine 1)) o then m.l1 else if j = q.ringIndex (q.parU (pFLine 0)) o then m.l0
    else q.dmAt j := by
  have hring : ∀ (r : State) (d e : Nat) (p w : Word), (r.ringWrite d p w).ringIndex e = r.ringIndex e :=
    fun _ _ _ _ _ => rfl
  have hpar : ∀ (r : State) (d : Nat) (p w : Word), (r.ringWrite d p w).parU = r.parU := fun _ _ _ _ => rfl
  simp only [fdnClose, State.dmAt_ringWrite, hring, hpar]

theorem fdnClose_z1 (o : Word) (m : Lanes) (q : State) (f : Nat) : (fdnClose o m q).z1 f = q.z1 f := by
  simp only [fdnClose, ringWrite_z1]

theorem fdnClose_yLast (o : Word) (m : Lanes) (q : State) (f : Nat) : (fdnClose o m q).yLast f = q.yLast f := by
  simp only [fdnClose, ringWrite_yLast]

theorem fdnClose_getV (o : Word) (m : Lanes) (q : State) (r : Nat) : (fdnClose o m q).getV r = q.getV r := by
  simp only [fdnClose, ringWrite_getV]

section Fdn

variable (o : Word) (x : Nat → Word) (s : State)

/-- The output of lane `c` before it is narrowed, on the state the lanes before it leave. -/
def laneResult (c : Nat) : Int := laneOut c o (x c) (laneState o x s c)

/-- The four lanes' outputs. -/
def laneWords : Lanes :=
  ⟨sat32 (laneResult o x s 0), sat32 (laneResult o x s 1), sat32 (laneResult o x s 2), sat32 (laneResult o x s 3)⟩

/-- The rotated outputs that close the cyclical lines. -/
def laneFeedback : ExactLanes := Machine.rotation (s.parQ pMixX) (s.parQ pMixY) (laneWords o x s)

/-- What FDNSTEP leaves (R163). -/
def fdnResult (d : Nat) : State :=
  ((fdnClose o (laneFeedback o x s).words (laneState o x s 4)).noteSat (laneFeedback o x s).clip).setLanes d
    (laneWords o x s)

theorem fst_fdnLane (c : Nat) : (fdnLane c o (x c) (laneState o x s c)).1 = sat32 (laneResult o x s c) := by
  rw [fdnLane_eq, laneResult]

theorem fdnLanes_eq (l : Lanes) (h : l = ⟨x 0, x 1, x 2, x 3⟩) :
    fdnLanes o l s = (laneWords o x s, laneState o x s 4) := by
  subst h
  rw [laneWords, ← fst_fdnLane, ← fst_fdnLane, ← fst_fdnLane, ← fst_fdnLane]
  rfl

end Fdn

theorem fdnEffect_eq (d xo vs : Nat) (s : State) :
    fdnEffect d xo vs s = fdnResult (s.getX xo) (fun c => s.getV (vs + c)) s d := by
  rw [fdnEffect, fdnLanes_eq (s.getX xo) (fun c => s.getV (vs + c)) s (s.lanes vs) rfl]
  rfl

end Sys2Proof.Proofs
end

section
/-! # FDNSTEP: the lanes in order, and the closed form when nothing collides (43_fdn.md R163) -/

namespace Sys2Proof.Proofs

open Sys2Proof.Machine Sys2Proof.Safety

-- Proofs one after the other: each thread of the compiler counts against the check's memory limit.
set_option Elab.async false

/-! ### Parameters inside their ranges (R37, R38) -/

theorem par_legal {s : State} {p : Nat} {sp : ParamSpec} (h : bankLegal s.cfg s.pa) (hp : paramSpec s.cfg p = some sp) :
    sp.lo ≤ sp.fmt.value (s.par p) ∧ sp.fmt.value (s.par p) ≤ sp.hi := by
  obtain ⟨w, hw, hl⟩ := h.1 p sp hp
  have hpar : s.par p = w := by rw [State.par, hw]; rfl
  rw [hpar]
  simpa only [ParamSpec.legal, Bool.and_eq_true, decide_eq_true_eq] using hl

theorem parU_le_of_legal {s : State} {p : Nat} {lo hi r : Int} (h : bankLegal s.cfg s.pa)
    (hp : paramSpec s.cfg p = some ⟨.u, lo, hi, r⟩) : (s.parU p : Int) ≤ hi := (par_legal h hp).2

theorem fdnLine_lt {s : State} (h : bankLegal s.cfg s.pa) {c : Nat} (hc : c < 4) : s.parU (pFLine c) < 32 := by
  have hp : paramSpec s.cfg (pFLine c) = some ⟨.u, 0, 31, 0⟩ := by interval_cases c <;> rfl
  have := parU_le_of_legal h hp
  omega

theorem fdnDamper_lt {s : State} (h : bankLegal s.cfg s.pa) {c : Nat} (hc : c < 4) : s.parU (pFDamp c) < 16 := by
  have hp : paramSpec s.cfg (pFDamp c) = some ⟨.u, 0, 15, 0⟩ := by interval_cases c <;> rfl
  have := parU_le_of_legal h hp
  omega

theorem fdnAllPass_lt {s : State} (h : bankLegal s.cfg s.pa) {c : Nat} (hc : c < 4) : s.parU (pFAp c) < 8 := by
  have hp : paramSpec s.cfg (pFAp c) = some ⟨.u, 0, 7, 0⟩ := by interval_cases c <;> rfl
  have := parU_le_of_legal h hp
  omega

theorem allPassLine_lt {s : State} (h : bankLegal s.cfg s.pa) {a : Nat} (ha : a < 8) : s.parU (pApLine a) < 32 := by
  have hp : paramSpec s.cfg (pApLine a) = some ⟨.u, 0, 31, 0⟩ := by interval_cases a <;> rfl
  have := parU_le_of_legal h hp
  omega

/-- The line of the all-pass bank that lane `c` names is a line. -/
theorem laneAllPass_lt {s : State} (h : bankLegal s.cfg s.pa) {c : Nat} (hc : c < 4) :
    s.parU (pApLine (s.parU (pFAp c))) < 32 := allPassLine_lt h (fdnAllPass_lt h hc)

/-! ### What FDNSTEP leaves, field by field -/

section Result

variable (o : Word) (x : Nat → Word) (s : State) (d : Nat)

theorem v_laneState (n : Nat) : (laneState o x s n).v = s.v :=
  iter_field State.v n _ s fun c q => by rw [fdnLane_eq]; rfl

theorem getV_fdnResult (hd : d ≤ 12) :
    (∀ c, c < 4 → (fdnResult o x s d).getV (d + c) = sat32 (laneResult o x s c)) ∧
    ∀ r, r < d ∨ d + 3 < r → (fdnResult o x s d).getV r = s.getV r := by
  rw [fdnResult]
  obtain ⟨h0, h1, h2, h3, hr⟩ := State.getV_setLanes ((fdnClose o (laneFeedback o x s).words
    (laneState o x s 4)).noteSat (laneFeedback o x s).clip) d (laneWords o x s) hd
  refine ⟨fun c hc => ?_, fun r h => ?_⟩
  · interval_cases c
    · exact h0
    · exact h1
    · exact h2
    · exact h3
  · rw [hr r h, noteSat_getV, fdnClose_getV, State.getV, v_laneState, State.getV]

theorem z1_fdnResult (f : Nat) : (fdnResult o x s d).z1 f = (laneState o x s 4).z1 f := by
  rw [fdnResult, setLanes_z1, noteSat_z1, fdnClose_z1]

theorem yLast_fdnResult (f : Nat) : (fdnResult o x s d).yLast f = (laneState o x s 4).yLast f := by
  rw [fdnResult, setLanes_yLast, noteSat_yLast, fdnClose_yLast]

theorem dmAt_fdnResult (j : Nat) : (fdnResult o x s d).dmAt j =
    if j = s.ringIndex (s.parU (pFLine 3)) o then sat32 (laneFeedback o x s).e3
    else if j = s.ringIndex (s.parU (pFLine 2)) o then sat32 (laneFeedback o x s).e2
    else if j = s.ringIndex (s.parU (pFLine 1)) o then sat32 (laneFeedback o x s).e1
    else if j = s.ringIndex (s.parU (pFLine 0)) o then sat32 (laneFeedback o x s).e0
    else (laneState o x s 4).dmAt j := by
  rw [fdnResult, setLanes_dmAt, noteSat_dmAt, dmAt_fdnClose]
  simp only [parU_laneState, (laneState_reads o x s 4).2, ExactLanes.words]

theorem noted_fdnResult : Noted ((List.range 4).any (fun c => laneClips c o (x c) (laneState o x s c)) ||
    (laneFeedback o x s).clip) s (fdnResult o x s d) := by
  have h : (fdnResult o x s d).flags = ((laneState o x s 4).noteSat (laneFeedback o x s).clip).flags := by
    rw [fdnResult, setLanes_flags, State.noteSat_flags, State.noteSat_flags, fdnClose_flags]
  unfold Noted
  rw [h]
  exact (noted_laneState o x s 4).trans (noted_noteSat _ _)

end Result

/-- What FDNSTEP leaves in the fields it may write. -/
structure FdnLeaves (o : Word) (x : Nat → Word) (s : State) (d : Nat) (t : State) : Prop where
  lane : ∀ c, c < 4 → t.getV (d + c) = sat32 (laneResult o x s c)
  tap : ∀ r, r < d ∨ d + 3 < r → t.getV r = s.getV r
  z1 : ∀ f, t.z1 f = (laneState o x s 4).z1 f
  yLast : ∀ f, t.yLast f = (laneState o x s 4).yLast f
  dm : ∀ j, t.dmAt j =
    if j = s.ringIndex (s.parU (pFLine 3)) o then sat32 (laneFeedback o x s).e3
    else if j = s.ringIndex (s.parU (pFLine 2)) o then sat32 (laneFeedback o x s).e2
    else if j = s.ringIndex (s.parU (pFLine 1)) o then sat32 (laneFeedback o x s).e1
    else if j = s.ringIndex (s.parU (pFLine 0)) o then sat32 (laneFeedback o x s).e0
    else (laneState o x s 4).dmAt j
  note : Noted ((List.range 4).any (fun c => laneClips c o (x c) (laneState o x s c)) ||
    (laneFeedback o x s).clip) s t

theorem FdnLeaves.sat {o : Word} {x : Nat → Word} {s : State} {d : Nat} {t : State} (h : FdnLeaves o x s d t) :
    t.sat = ((laneState o x s 4).sat || (laneFeedback o x s).clip) := by
  rw [h.note.sat, (noted_laneState o x s 4).sat, Bool.or_assoc]

theorem FdnLeaves.complete {o : Word} {x : Nat → Word} {s : State} {d : Nat} {t : State} (h : FdnLeaves o x s d t) :
    FdnLeaves o x s d t.complete :=
  ⟨h.lane, h.tap, h.z1, h.yLast, h.dm, h.note⟩

theorem fdnLeaves_fdnResult (o : Word) (x : Nat → Word) (s : State) {d : Nat} (hd : d ≤ 12) :
    FdnLeaves o x s d (fdnResult o x s d) :=
  have hv := getV_fdnResult o x s d hd
  ⟨hv.1, hv.2, z1_fdnResult o x s d, yLast_fdnResult o x s d, dmAt_fdnResult o x s d, noted_fdnResult o x s d⟩

/-- FDNSTEP completes, within its frame, whatever the banks and lines are. -/
theorem exec_fdnstep {d xo vs : Nat} {s : State} (hd : d ≤ 12) (hvs : vs ≤ 12) (hdev : s.devok = true) :
    ∃ t, exec (.fdnstep d xo vs) s = .next t ∧ t = (graft (.fdnstep d xo vs) t s).complete ∧
      FdnLeaves (s.getX xo) (fun c => s.getV (vs + c)) s d t := by
  refine ⟨_, exec_line ⟨hd, hvs⟩ hdev (by simp), (effect_touchesOnly _ s).complete, FdnLeaves.complete ?_⟩
  rw [effect, fdnEffect_eq]
  exact fdnLeaves_fdnResult _ _ s hd

/-! ### When no two dampers and no two lines are the same -/

/-- The four dampers are distinct, and so are the eight lines. -/
structure FdnDistinct (s : State) : Prop where
  lanes : ∀ c e, c < 4 → e < 4 → c ≠ e → s.parU (pFDamp c) ≠ s.parU (pFDamp e) ∧
    s.parU (pFLine c) ≠ s.parU (pFLine e) ∧
    s.parU (pApLine (s.parU (pFAp c))) ≠ s.parU (pApLine (s.parU (pFAp e)))
  lines : ∀ c e, c < 4 → e < 4 → s.parU (pFLine c) ≠ s.parU (pApLine (s.parU (pFAp e)))

section Distinct

variable {o : Word} {x : Nat → Word} {s : State} (hp : LinesPacked s) (hdev : s.devok = true)
  (hb : bankLegal s.cfg s.pa) (hd : FdnDistinct s)

include hp hdev hb hd

/-- Every lane reads the state before the command. -/
theorem lane_eq_of_distinct {c : Nat} (hc : c < 4) :
    laneIn c o (x c) (laneState o x s c) = laneIn c o (x c) s ∧
    laneDamped c o (x c) (laneState o x s c) = laneDamped c o (x c) s ∧
    laneNext c o (x c) (laneState o x s c) = laneNext c o (x c) s ∧
    laneOut c o (x c) (laneState o x s c) = laneOut c o (x c) s ∧
    laneFeed c o (x c) (laneState o x s c) = laneFeed c o (x c) s := by
  obtain ⟨i1, i2, i3, i4, i5⟩ := lane_values o x s c c (x c)
  obtain ⟨j1, j2, j3, j4, j5⟩ := lane_values o x s 0 c (x c)
  have hin : ∀ p, (laneState o x s c).dmAt (s.ringIndex (s.parU (pFLine c)) p) =
      s.dmAt (s.ringIndex (s.parU (pFLine c)) p) := fun p => dmAt_laneState_other o x s c _ fun e he =>
    ringIndex_ne hp hdev (fdnLine_lt hb hc) (laneAllPass_lt hb (by omega)) (hd.lines c e hc (by omega)) p o
  have hout : ∀ p, (laneState o x s c).dmAt (s.ringIndex (s.parU (pApLine (s.parU (pFAp c)))) p) =
      s.dmAt (s.ringIndex (s.parU (pApLine (s.parU (pFAp c)))) p) := fun p =>
    dmAt_laneState_other o x s c _ fun e he => ringIndex_ne hp hdev (laneAllPass_lt hb hc)
      (laneAllPass_lt hb (by omega)) (hd.lanes c e hc (by omega) (by omega)).2.2 p o
  have hz := (history_laneState_other o x s c (s.parU (pFDamp c)) fun e he =>
    (hd.lanes c e hc (by omega) (by omega)).1).1
  have e1 : laneIn c o (x c) (laneState o x s c) = laneIn c o (x c) s := by rw [i1, hin]; exact j1.symm
  have e2 : laneDamped c o (x c) (laneState o x s c) = laneDamped c o (x c) s := by rw [i2, e1, hz]; exact j2.symm
  have e3 : laneNext c o (x c) (laneState o x s c) = laneNext c o (x c) s := by rw [i3, e1, e2]; exact j3.symm
  have e4 : laneOut c o (x c) (laneState o x s c) = laneOut c o (x c) s := by rw [i4, e2, hout]; exact j4.symm
  exact ⟨e1, e2, e3, e4, by rw [i5, e2, e4]; exact j5.symm⟩

/-- The last lane leaves each damper's and each all-pass line's word as the lane that owns it wrote it. -/
theorem laneState_four_of_distinct {c : Nat} (hc : c < 4) :
    (laneState o x s 4).z1 (s.parU (pFDamp c)) = sat32 (laneNext c o (x c) s) ∧
    (laneState o x s 4).yLast (s.parU (pFDamp c)) = sat32 (laneDamped c o (x c) s) ∧
    (laneState o x s 4).dmAt (s.ringIndex (s.parU (pApLine (s.parU (pFAp c)))) o) =
      sat32 (laneFeed c o (x c) s) := by
  have hbank : ∀ c e, c < 4 → e < 4 → s.parU (pFDamp c) = s.parU (pFDamp e) → c = e := fun c e hc he h => by
    by_contra hne
    exact (hd.lanes c e hc he hne).1 h
  have hline : ∀ c e, c < 4 → e < 4 → s.ringIndex (s.parU (pApLine (s.parU (pFAp c)))) o =
      s.ringIndex (s.parU (pApLine (s.parU (pFAp e)))) o → c = e := fun c e hc he h => by
    by_contra hne
    exact ringIndex_ne hp hdev (laneAllPass_lt hb hc) (laneAllPass_lt hb he) (hd.lanes c e hc he hne).2.2 o o h
  have hvals := fun k (hk : k < 4) => lane_eq_of_distinct (o := o) (x := x) hp hdev hb hd hk
  refine ⟨?_, ?_, ?_⟩
  · exact (loop_updates_all State.z1 (fun k => s.parU (pFDamp k)) (fun k _ => sat32 (laneNext k o (x k) s)) 4 _ s hbank
      fun k hk j => by
        rw [← (hvals k hk).2.2.1]
        exact z1_laneState_succ o x s (fdnDamper_lt hb hk) j).1 c hc
  · exact (loop_updates_all State.yLast (fun k => s.parU (pFDamp k)) (fun k _ => sat32 (laneDamped k o (x k) s)) 4 _ s
      hbank fun k hk j => by
        rw [← (hvals k hk).2.1]
        exact yLast_laneState_succ o x s (fdnDamper_lt hb hk) j).1 c hc
  · exact (loop_updates_all State.dmAt (fun k => s.ringIndex (s.parU (pApLine (s.parU (pFAp k)))) o)
      (fun k _ => sat32 (laneFeed k o (x k) s)) 4 _ s hline fun k hk j => by
        rw [← (hvals k hk).2.2.2.2]
        exact dmAt_laneState_succ o x s k j).1 c hc

/-- The fed words of the all-pass lines and the closed cyclical lines after the command. -/
theorem dmAt_of_distinct {d : Nat} {t : State} (h : FdnLeaves o x s d t) {c : Nat} (hc : c < 4) :
    t.dmAt (s.ringIndex (s.parU (pApLine (s.parU (pFAp c)))) o) =
      sat32 (laneFeed c o (x c) s) ∧
    t.dmAt (s.ringIndex (s.parU (pFLine c)) o) = sat32 (if c = 0 then (laneFeedback o x s).e0
      else if c = 1 then (laneFeedback o x s).e1 else if c = 2 then (laneFeedback o x s).e2
      else (laneFeedback o x s).e3) := by
  have hap : ∀ e, e < 4 → s.ringIndex (s.parU (pApLine (s.parU (pFAp c)))) o ≠ s.ringIndex (s.parU (pFLine e)) o :=
    fun e he h => ringIndex_ne hp hdev (fdnLine_lt hb he) (laneAllPass_lt hb hc) (hd.lines e c he hc) o o h.symm
  have hcy : ∀ e, e < 4 → c ≠ e → s.ringIndex (s.parU (pFLine c)) o ≠ s.ringIndex (s.parU (pFLine e)) o :=
    fun e he hne => ringIndex_ne hp hdev (fdnLine_lt hb hc) (fdnLine_lt hb he) (hd.lanes c e hc he hne).2.1 o o
  refine ⟨?_, ?_⟩
  · rw [h.dm, if_neg (hap 3 (by omega)), if_neg (hap 2 (by omega)), if_neg (hap 1 (by omega)),
      if_neg (hap 0 (by omega)), (laneState_four_of_distinct hp hdev hb hd hc).2.2]
  · rw [h.dm]
    interval_cases c
    · rw [if_neg (hcy 3 (by omega) (by omega)), if_neg (hcy 2 (by omega) (by omega)),
        if_neg (hcy 1 (by omega) (by omega)), if_pos rfl]
      rfl
    · rw [if_neg (hcy 3 (by omega) (by omega)), if_neg (hcy 2 (by omega) (by omega)), if_pos rfl]
      rfl
    · rw [if_neg (hcy 3 (by omega) (by omega)), if_pos rfl]
      rfl
    · rw [if_pos rfl]
      rfl

end Distinct

/-- Settles O42: `laneState` is the state between the lanes, `laneResult` a lane's output before it is narrowed. -/
theorem fdnStepClosesTheReverbLoop : Obligations.FdnStepClosesTheReverbLoop := by
  intro d xo vs s _ hd hvs hdev o line bank apLine apDelay g t' u n1 a w aw mx my m
  let x : Nat → Word := fun c => s.getV (vs + c)
  have hdly : ∀ b, pApDly b = 0x81 + 4 * b := fun b => by rw [pApDly]; omega
  have hg : ∀ b, pApG b = 0x82 + 4 * b := fun b => by rw [pApG]; omega
  obtain ⟨t, hexec, hframe, hleaves⟩ := exec_fdnstep (xo := xo) hd hvs hdev
  refine ⟨t, hexec, hframe, hleaves.tap, fun f hf => ?_, fun j hj => ?_, hleaves.note.errorBits, fun hb => ?_,
    fun hp hb hlanes hlines => ?_⟩
  · obtain ⟨h1, h2⟩ := history_laneState_other o x s 4 f hf
    exact ⟨(hleaves.z1 f).trans h1, (hleaves.yLast f).trans h2⟩
  · have hline : ∀ c, c < 4 → j ≠ s.ringIndex (s.parU (pFLine c)) o := fun c hc => (hj c hc).1
    rw [hleaves.dm, if_neg (hline 3 (by omega)), if_neg (hline 2 (by omega)), if_neg (hline 1 (by omega)),
      if_neg (hline 0 (by omega)), dmAt_laneState_other o x s 4 j fun c hc => (hj c hc).2]
  · refine ⟨laneState o x s, laneResult o x s, rfl, fun c hc => ?_, hleaves.lane,
      fun f => ⟨hleaves.z1 f, hleaves.yLast f⟩, hleaves.dm, ?_⟩
    · intro q t' u n1 w
      obtain ⟨h1, h2, h3, h4, h5⟩ := lane_values o x s c c (x c)
      have e1 : laneIn c o (x c) q = t' := h1
      have e2 : laneDamped c o (x c) q = u := h2.trans (by rw [e1]; rfl)
      have e3 : laneNext c o (x c) q = n1 := h3.trans (by rw [e1, e2]; rfl)
      have e4 : laneOut c o (x c) q = laneResult o x s c := rfl
      have e5 : laneFeed c o (x c) q = w := h5.trans (by rw [e2, e4, hg]; rfl)
      have hf := fdnDamper_lt hb hc
      refine ⟨?_, fun f => ⟨?_, ?_⟩, fun j => ?_, ?_⟩
      · exact h4.trans (by rw [e2, hdly, hg]; rfl)
      · exact (z1_laneState_succ o x s hf f).trans (by rw [e3]; rfl)
      · exact (yLast_laneState_succ o x s hf f).trans (by rw [e2]; rfl)
      · exact (dmAt_laneState_succ o x s c j).trans (by rw [e5]; rfl)
      · refine (sat_laneState_succ o x s c).trans ?_
        rw [laneClips, e1, e2, e3, e4, e5]
        simp only [Bool.or_assoc]
        rfl
    · refine hleaves.sat.trans ?_
      rw [ExactLanes.clip]
      simp only [Bool.or_assoc]
      rfl
  · have hD : FdnDistinct s := ⟨hlanes, hlines⟩
    have e1 : ∀ c, laneIn c o (x c) s = t' c := fun _ => rfl
    have e2 : ∀ c, laneDamped c o (x c) s = u c := fun c => by rw [laneDamped, e1]; rfl
    have e3 : ∀ c, laneNext c o (x c) s = n1 c := fun c => by rw [laneNext_eq, e1, e2]; rfl
    have e4 : ∀ c, laneOut c o (x c) s = a c := fun c => by rw [laneOut, allPassOut, e2, hdly, hg]; rfl
    have e5 : ∀ c, laneFeed c o (x c) s = w c := fun c => by rw [laneFeed_eq, e2, e4, hg]; rfl
    have hres : ∀ c, c < 4 → laneResult o x s c = a c := fun c hc =>
      (lane_eq_of_distinct hp hdev hb hD hc).2.2.2.1.trans (e4 c)
    have hwords : laneWords o x s = ⟨sat32 (a 0), sat32 (a 1), sat32 (a 2), sat32 (a 3)⟩ := by
      rw [laneWords, hres 0 (by omega), hres 1 (by omega), hres 2 (by omega), hres 3 (by omega)]
    have hback : laneFeedback o x s = ⟨m 0, m 1, m 2, m 3⟩ := by
      rw [laneFeedback, hwords]
      rfl
    refine ⟨fun c hc => ?_, ?_⟩
    · obtain ⟨hz4, hy4, -⟩ := laneState_four_of_distinct (o := o) (x := x) hp hdev hb hD hc
      obtain ⟨hap, hcy⟩ := dmAt_of_distinct hp hdev hb hD hleaves hc
      refine ⟨(hleaves.lane c hc).trans (congrArg sat32 (hres c hc)), (hleaves.z1 _).trans (hz4.trans (by rw [e3])),
        (hleaves.yLast _).trans (hy4.trans (by rw [e2])), hap.trans (by rw [e5]), hcy.trans ?_⟩
      rw [hback]
      interval_cases c <;> rfl
    · have hclips : ∀ c, c < 4 → laneClips c o (x c) (laneState o x s c) =
          (clips (t' c) || clips (u c) || clips (n1 c) || clips (a c) || clips (w c)) := fun c hc => by
        obtain ⟨h1, h2, h3, h4, h5⟩ := lane_eq_of_distinct (o := o) (x := x) hp hdev hb hD hc
        rw [laneClips, h1, h2, h3, h4, h5, e1, e2, e3, e4, e5]
      refine (Bool.eq_iff_iff.mp hleaves.note.sat).trans ?_
      have hclip : (laneFeedback o x s).clip = true ↔ ∃ c, c < 4 ∧ clips (m c) = true := by
        rw [hback, ExactLanes.clip, ← any_range_iff, show List.range 4 = [0, 1, 2, 3] from rfl]
        simp only [List.any_cons, List.any_nil, Bool.or_false, Bool.or_assoc]
      rw [Bool.or_eq_true, Bool.or_eq_true, hclip, any_range_iff, ← exists_or]
      refine or_congr_right (exists_congr fun c => ?_)
      rw [← and_or_left]
      refine and_congr_right fun hc => ?_
      rw [hclips c hc, ← Bool.or_eq_true]

end Sys2Proof.Proofs
end

section
/-! # Host inputs: CMD, the register map and reset (10_state.md, 20_memory.md) -/

namespace Sys2Proof.Proofs

open Sys2Proof.Machine Sys2Proof.Safety

-- Proofs one after the other: each thread of the compiler counts against the check's memory limit.
set_option Elab.async false

/-! ### One input of the host -/

theorem step_input {s : State} {op : HostOp} {rest : List HostOp} (hok : s.cfg.ok = true) (hh : s.host = op :: rest) :
    step s = hostStep op { s with host := rest } := by
  simp only [step, transact, hok, hh, Bool.not_true, Bool.false_eq_true, if_false]

theorem step_no_input {s : State} (hok : s.cfg.ok = true) (hh : s.host = []) : step s = idleStep s := by
  simp only [step, transact, hok, hh, Bool.not_true, Bool.false_eq_true, if_false]

theorem readStep_idle {s : State} (hr : s.running = none) (a : Nat) : readStep a s = .next (readAccess a s) := by
  rw [readStep, hr]

theorem readStep_busy {s : State} {r : Running} (hr : s.running = some r) (a : Nat) :
    readStep a s = settle r (busyRead r a s) := by
  rw [readStep, hr]

theorem writeStep_busy {s : State} {r : Running} (hr : s.running = some r) (a : Nat) (w : Word) (lag : Nat) :
    writeStep a w lag s = settle r (s.rejectBus .busy a true) := by
  rw [writeStep, hr]

theorem writeStep_cmd {s : State} (hr : s.running = none) (w : Word) (lag : Nat) :
    writeStep cmdAddr w lag s = startCommand w lag (s.answer (.writeDone false)) := by
  rw [writeStep, hr]
  rfl

theorem writeStep_idle {s : State} (hr : s.running = none) {a : Nat} (ha : a ≠ 5) (w : Word) (lag : Nat) :
    writeStep a w lag s = .next (writeAccess a w s) := by
  rw [writeStep, hr]
  exact if_neg ha

/-- A read of an idle unit. -/
theorem step_read {s : State} {a : BitVec 16} {rest : List HostOp} (hok : s.cfg.ok = true) (hr : s.running = none)
    (hh : s.host = .read a :: rest) : step s = .next (readAccess a.toNat { s with host := rest }) := by
  rw [step_input hok hh, hostStep, readStep_idle (by exact hr)]

/-- A write of an idle unit to another address than CMD. -/
theorem step_write {s : State} {a : BitVec 16} {w : Word} {lag : Nat} {rest : List HostOp} (hok : s.cfg.ok = true)
    (hr : s.running = none) (hh : s.host = .write a w lag :: rest) (ha : a.toNat ≠ 5) :
    step s = .next (writeAccess a.toNat w { s with host := rest }) := by
  rw [step_input hok hh, hostStep, writeStep_idle (by exact hr) ha]

/-- A CMD write of an idle unit. -/
theorem step_command {s : State} {w : Word} {lag : Nat} {rest : List HostOp} (hok : s.cfg.ok = true)
    (hr : s.running = none) (hh : s.host = .write 0x0005 w lag :: rest) :
    step s = startCommand w lag { s with host := rest, resp := some (.writeDone false) } := by
  rw [step_input hok hh]
  exact writeStep_cmd (s := { s with host := rest }) hr w lag

/-! ### CMD writes (R27, R112) -/

theorem startCommand_bad {w : Word} {e : DecodeError} (h : decode w = .error e) (lag : Nat) (s : State) :
    startCommand w lag s = .next (s.raise .badop w) := by
  rw [startCommand, h]

theorem startCommand_at_once {w : Word} {i : Instr} (h : decode w = .ok i) (s : State) :
    startCommand w 0 s = exec i s := by
  rw [startCommand, h]
  rfl

/-- A command that is not rejected by its checks stays in progress. -/
theorem startCommand_later {w : Word} {i : Instr} (h : decode w = .ok i) {lag : Nat} (hlag : lag ≠ 0) {s t : State}
    (ht : exec i s = .next t) :
    startCommand w lag s = if t.rejected then .next t else .next { s with running := some ⟨i, lag⟩ } := by
  rw [startCommand, h]
  simp only [if_neg hlag, ht]

/-- A command whose operand and device checks pass is not rejected at once; DEVUPD's own check comes later (R256). -/
theorem not_rejected {i : Instr} {s t : State} (ho : operandsExist i s) (hl : touchesLine i → s.devok = true)
    (ht : exec i s = .next t) : t.rejected = false := by
  by_cases hd : i = .devupd → s.allocFits = true
  · rw [exec_accepted ho hl hd] at ht
    cases ht
    simp [State.rejected]
  · obtain ⟨rfl, hf⟩ := Classical.not_imp.mp hd
    rw [exec_devupd, if_neg hf] at ht
    cases ht
    simp [State.rejected]

/-- Settles O4. -/
theorem stepRunsTheWordWrittenToCmd : Obligations.StepRunsTheWordWrittenToCmd := by
  intro s w lag rest hok hr hh
  refine ⟨fun i hi hlag => ?_, fun e he => ?_⟩
  · subst hlag
    rw [step_command hok hr hh, startCommand_at_once hi]
  · rw [step_command hok hr hh, startCommand_bad he]
    rfl

/-! ### A busy unit (R80 to R82) -/

theorem flagsWord_eq (s : State) : s.flagsWord = s.flags.setWidth 32 := by
  simp [State.flagsWord]

theorem lasterrWord_eq (s : State) : s.lasterrWord = s.lasterr.elim 0 fun e => BitVec.ofNat 32 e.code := by
  rw [State.lasterrWord]
  cases s.lasterr <;> rfl

theorem noteSat_eq (s : State) (b : Bool) :
    s.noteSat b = { s with flags := if b then s.flags ||| 1 else s.flags } := by
  cases b
  · simp [State.noteSat]
  · rfl

theorem satAhead_iff (s : State) (r : Running) :
    s.satAhead r = true ↔ ∃ t, exec r.instr s = .next t ∧ t.sat = true := by
  obtain ⟨t, ht⟩ := exec_total r.instr s
  simp [State.satAhead, ht]

/-- The five reads that a busy unit answers. -/
theorem busyRead_answers (r : Running) (s : State) :
    busyRead r 0 s = s.answer (.readDone idWord false) ∧ busyRead r 1 s = s.answer (.readDone s.statusWord false) ∧
    busyRead r 2 s = (s.pollFlags r).answer (.readDone (s.pollFlags r).flagsWord false) ∧
    busyRead r 3 s = s.answer (.readDone s.lasterrWord false) ∧
    busyRead r 4 s = s.answer (.readDone s.errinfo false) := ⟨rfl, rfl, rfl, rfl, rfl⟩

theorem busyRead_refuses (r : Running) {a : Nat} (ha : 5 ≤ a) (s : State) :
    busyRead r a s = s.rejectBus .busy a false := by
  simp (disch := omega) only [busyRead, if_neg]

/-- Settles O5. -/
theorem busyUnitAnswersFiveReadsAndRefusesTheRest : Obligations.BusyUnitAnswersFiveReadsAndRefusesTheRest := by
  refine ⟨fun s w i lag rest hok hr hh hdec ho hl => ?_, fun s r op rest hok hr hh => ?_⟩
  · rw [step_command hok hr hh]
    generalize hu : ({ s with host := rest, resp := some (.writeDone false) } : State) = u
    have ho' : operandsExist i u := by
      subst hu
      cases i <;> exact ho
    obtain ⟨t, ht⟩ := exec_total i u
    rw [startCommand_later hdec (Nat.succ_ne_zero lag) ht, not_rejected ho' (by subst hu; exact hl) ht, ← hu]
    exact if_neg Bool.false_ne_true
  · intro after
    rw [step_input hok hh]
    have hr' : ({ s with host := rest } : State).running = some r := hr
    have hread : ∀ a, hostStep (.read a) { s with host := rest } = after (busyRead r a.toNat { s with host := rest }) :=
      fun a => readStep_busy hr' a.toNat
    refine ⟨?_, ?_, ?_, ?_, ?_, fun a h ha => ?_, fun a w lag h => ?_⟩
    · rintro rfl
      exact hread 0
    · rintro rfl
      refine (hread 1).trans (congrArg after ?_)
      refine congrArg (fun w => State.answer (.readDone w false) ({ s with host := rest } : State)) ?_
      rw [State.statusWord, State.busy, hr']
      rfl
    · rintro rfl
      refine ⟨Config.satEarly s.polls && ({ s with host := rest } : State).satAhead r,
        (hread 2).trans (congrArg after ?_), fun hb => ?_⟩
      · refine (busyRead_answers r _).2.2.1.trans ?_
        rw [flagsWord_eq, State.pollFlags, noteSat_eq]
        rfl
      · exact (satAhead_iff _ r).mp (Bool.and_eq_true_iff.mp hb).2
    · rintro rfl
      refine (hread 3).trans (congrArg after ?_)
      exact congrArg (fun w => State.answer (.readDone w false) ({ s with host := rest } : State)) (lasterrWord_eq _)
    · rintro rfl
      exact hread 4
    · subst h
      refine (hread a).trans (congrArg after ?_)
      rw [busyRead_refuses r ha]
      rfl
    · subst h
      exact writeStep_busy hr' a.toNat w lag

end Sys2Proof.Proofs
end

section
/-! # The register map (10_state.md R23), reset, and completion of every input (20_memory.md R82) -/

namespace Sys2Proof.Proofs

open Sys2Proof.Machine Sys2Proof.Safety

-- Proofs one after the other: each thread of the compiler counts against the check's memory limit.
set_option Elab.async false

/-! ### Reads of an idle unit -/

/-- A readable register answers with its word. -/
theorem step_read_gives {s : State} {a : BitVec 16} {rest : List HostOp} {w : Word} (hok : s.cfg.ok = true)
    (hr : s.running = none) (hh : s.host = .read a :: rest) (ha : a.toNat ≠ 8)
    (hw : ({ s with host := rest } : State).regRead a.toNat = some w) :
    step s = .next { s with host := rest, resp := some (.readDone w false) } := by
  rw [step_read hok hr hh, readAccess, if_neg ha, hw]
  rfl

/-- An address without read right is refused. -/
theorem step_read_refuses {s : State} {a : BitVec 16} {rest : List HostOp} (hok : s.cfg.ok = true)
    (hr : s.running = none) (hh : s.host = .read a :: rest) (ha : a.toNat ≠ 8)
    (hw : ({ s with host := rest } : State).regRead a.toNat = none) :
    step s = .next { s with host := rest, resp := some (.readDone 0 true), flags := s.flags ||| 4,
                            lasterr := some .badid, errinfo := BitVec.ofNat 32 a.toNat } := by
  rw [step_read hok hr hh, readAccess, if_neg ha, hw]
  rfl

theorem getElem?_eq_getD {n k : Nat} (v : Vector Word n) (hk : k < n) : v[k]? = some (v[k]?.getD 0) := by
  simp [hk]

theorem bankRead_known {c : Config} {bank : Vector Word 256} {p : Nat} {sp : ParamSpec} {w : Word}
    (hp : paramSpec c p = some sp) (hw : bank[p]? = some w) : bankRead c bank p = some w := by
  rw [bankRead, hp]
  exact hw

theorem bankRead_unknown {c : Config} {bank : Vector Word 256} {p : Nat} (hp : paramSpec c p = none) :
    bankRead c bank p = none := by
  rw [bankRead, hp]

theorem lt_256_of_getElem? {bank : Vector Word 256} {p : Nat} {w : Word} (h : bank[p]? = some w) : p < 256 := by
  by_contra hp
  rw [Vector.getElem?_eq_none (by omega)] at h
  exact absurd h (by simp)

section RegRead

variable (s : State)

theorem regRead_v {k : Nat} (hk : k < 16) : s.regRead (0x0010 + k) = some (s.getV k) := by
  simp (disch := omega) only [State.regRead, if_neg, if_pos, Nat.add_sub_cancel_left]
  exact getElem?_eq_getD s.v hk

theorem regRead_x {k : Nat} (hk : k < 8) : s.regRead (0x0020 + k) = some (s.getX k) := by
  simp (disch := omega) only [State.regRead, if_neg, if_pos, Nat.add_sub_cancel_left]
  exact getElem?_eq_getD s.x hk

theorem regRead_dlreq {k : Nat} (hk : k < 32) : s.regRead (0x0040 + k) = some (s.dlReq k) := by
  simp (disch := omega) only [State.regRead, if_neg, if_pos, Nat.add_sub_cancel_left]
  exact getElem?_eq_getD s.dlreq hk

theorem regRead_dlbase {k : Nat} (hk : k < 32) : s.regRead (0x0060 + k) = some (s.dlBase k) := by
  simp (disch := omega) only [State.regRead, if_neg, if_pos, Nat.add_sub_cancel_left]
  exact getElem?_eq_getD s.dlbase hk

theorem regRead_dllen {k : Nat} (hk : k < 32) : s.regRead (0x0080 + k) = some (s.dlLen k) := by
  simp (disch := omega) only [State.regRead, if_neg, if_pos, Nat.add_sub_cancel_left]
  exact getElem?_eq_getD s.dllen hk

theorem regRead_shadow {p : Nat} (hp : p < 256) : s.regRead (0x0100 + p) = bankRead s.cfg s.ps p := by
  simp (disch := omega) only [State.regRead, if_neg, if_pos, Nat.add_sub_cancel_left]

theorem regRead_active {p : Nat} (hp : p < 256) : s.regRead (0x0200 + p) = bankRead s.cfg s.pa p := by
  simp (disch := omega) only [State.regRead, if_neg, if_pos, Nat.add_sub_cancel_left]

theorem regRead_history {k : Nat} (hk : k < 64) : s.regRead (0x0300 + k) = s.historyWord k := by
  simp (disch := omega) only [State.regRead, if_neg, if_pos, Nat.add_sub_cancel_left]

theorem historyWord_cases {f : Nat} (hf : f < 16) :
    s.historyWord (4 * f) = some (s.z1 f) ∧ s.historyWord (4 * f + 1) = some (s.z2 f) ∧
    s.historyWord (4 * f + 2) = some (s.yLast f) := by
  have h : 4 * f / 4 = f ∧ (4 * f + 1) / 4 = f ∧ (4 * f + 2) / 4 = f := by omega
  have h0 : 4 * f % 4 = 0 := by omega
  have h1 : (4 * f + 1) % 4 = 1 := by omega
  have h2 : (4 * f + 2) % 4 = 2 := by omega
  simp only [State.historyWord, h0, h1, h2, h]
  exact ⟨getElem?_eq_getD s.bqz1 hf, getElem?_eq_getD s.bqz2 hf, getElem?_eq_getD s.bqy hf⟩

theorem historyWord_reserved {k : Nat} (hk : k % 4 = 3) : s.historyWord k = none := by
  simp only [State.historyWord, hk]

end RegRead

/-- Settles O6. -/
theorem idleReadsReturnTheRegisters : Obligations.IdleReadsReturnTheRegisters := by
  intro s a rest hok hr hh gives n
  have hat : ∀ m w, n = m → m ≠ 8 → ({ s with host := rest } : State).regRead m = some w → gives w :=
    fun m w (hn : a.toNat = m) hm hw => step_read_gives hok hr hh (hn ▸ hm) (hn ▸ hw)
  refine ⟨fun h => hat _ _ h (by omega) rfl, fun h => hat _ _ h (by omega) ?_, fun h => hat _ _ h (by omega) ?_,
    fun h => hat _ _ h (by omega) (congrArg some (lasterrWord_eq _)), fun h => hat _ _ h (by omega) rfl,
    fun h => hat _ _ h (by omega) rfl, fun h => hat _ _ h (by omega) rfl, fun h => hat _ _ h (by omega) rfl,
    fun h => hat _ _ h (by omega) rfl, fun h => hat _ _ h (by omega) rfl, fun h => hat _ _ h (by omega) rfl,
    fun h => ⟨_, hat _ _ h (by omega) rfl, fun hs => if_pos hs⟩,
    fun k hk h => hat _ _ h (by omega) (regRead_v _ hk), fun k hk h => hat _ _ h (by omega) (regRead_x _ hk),
    fun k hk h => hat _ _ h (by omega) (regRead_dlreq _ hk), fun k hk h => hat _ _ h (by omega) (regRead_dlbase _ hk),
    fun k hk h => hat _ _ h (by omega) (regRead_dllen _ hk), fun p sp w hp hw h => ?_, fun p sp w hp hw h => ?_,
    fun f hf h => hat _ _ h (by omega) ?_, fun f hf h => hat (0x0300 + (4 * f + 1)) _ (by omega) (by omega) ?_,
    fun f hf h => hat (0x0300 + (4 * f + 2)) _ (by omega) (by omega) ?_, fun h => hat _ _ h (by omega) rfl,
    fun h => hat _ _ h (by omega) rfl, fun h => hat _ _ h (by omega) rfl, fun h => hat _ _ h (by omega) rfl,
    fun h => hat _ _ h (by omega) rfl, fun h => hat _ _ h (by omega) ?_, fun h => hat _ _ h (by omega) ?_⟩
  · refine congrArg some ?_
    simp [State.statusWord, State.busy, hr]
  · exact congrArg some (flagsWord_eq _)
  · have h256 := lt_256_of_getElem? hw
    exact hat _ _ h (by omega) ((regRead_shadow _ h256).trans (bankRead_known hp hw))
  · have h256 := lt_256_of_getElem? hw
    exact hat _ _ h (by omega) ((regRead_active _ h256).trans (bankRead_known hp hw))
  · exact (regRead_history _ (by omega)).trans (historyWord_cases _ hf).1
  · exact (regRead_history _ (by omega)).trans (historyWord_cases _ hf).2.1
  · exact (regRead_history _ (by omega)).trans (historyWord_cases _ hf).2.2
  · refine congrArg some ?_
    simp [BitVec.ofNat_toNat]
  · refine congrArg some (BitVec.eq_of_toNat_eq ?_)
    simp [Nat.shiftRight_eq_div_pow]

/-! ### Writes of an idle unit -/

theorem setIfInBounds_eq_set {α : Type} {n : Nat} (v : Vector α n) (k : Fin n) (w : α) :
    v.setIfInBounds k w = v.set k w := by
  ext i hi
  simp [Vector.getElem_set, Vector.getElem_setIfInBounds]

section WriteAccess

variable (s : State) (w : Word)

theorem writeAccess_v {k : Nat} (hk : k < 16) :
    writeAccess (0x0010 + k) w s = (s.setV k w).answer (.writeDone false) := by
  have h : 0x0010 ≤ 0x0010 + k ∧ 0x0010 + k < 0x0020 := by omega
  have h8 : 0x0010 + k ≠ mdataAddr := by rw [mdataAddr]; omega
  simp (disch := omega) only [writeAccess, if_neg h8, if_neg, if_pos h, Nat.add_sub_cancel_left]

theorem writeAccess_x {k : Nat} (hk : k < 8) :
    writeAccess (0x0020 + k) w s = (s.setX k w).answer (.writeDone false) := by
  have h : 0x0020 ≤ 0x0020 + k ∧ 0x0020 + k < 0x0028 := by omega
  have h8 : 0x0020 + k ≠ mdataAddr := by rw [mdataAddr]; omega
  simp (disch := omega) only [writeAccess, if_neg h8, if_neg, if_pos h, Nat.add_sub_cancel_left]

theorem writeAccess_dlreq {k : Nat} (hk : k < 32) : writeAccess (0x0040 + k) w s =
    ({ s with dlreq := s.dlreq.setIfInBounds k w } : State).answer (.writeDone false) := by
  have h : 0x0040 ≤ 0x0040 + k ∧ 0x0040 + k < 0x0060 := by omega
  have h8 : 0x0040 + k ≠ mdataAddr := by rw [mdataAddr]; omega
  simp (disch := omega) only [writeAccess, if_neg h8, if_neg, if_pos h, Nat.add_sub_cancel_left]

theorem writeAccess_shadow {p : Nat} (hp : p < 256) : writeAccess (0x0100 + p) w s = shadowWrite p w s := by
  have h : 0x0100 ≤ 0x0100 + p ∧ 0x0100 + p < 0x0200 := by omega
  have h8 : 0x0100 + p ≠ mdataAddr := by rw [mdataAddr]; omega
  simp (disch := omega) only [writeAccess, if_neg h8, if_neg, if_pos h, Nat.add_sub_cancel_left]

theorem writeAccess_refuses {a : Nat} (ha : a < 0x0010 ∨ (0x0028 ≤ a ∧ a < 0x0040) ∨ (0x0060 ≤ a ∧ a < 0x0100) ∨
    0x0200 ≤ a) (h2 : a ≠ 2) (h6 : a ≠ 6) (h7 : a ≠ 7) (h8 : a ≠ 8) :
    writeAccess a w s = s.rejectBus .badid a true := by
  have hv : ¬ (0x0010 ≤ a ∧ a < 0x0020) := by omega
  have hx : ¬ (0x0020 ≤ a ∧ a < 0x0028) := by omega
  have hd : ¬ (0x0040 ≤ a ∧ a < 0x0060) := by omega
  have hs : ¬ (0x0100 ≤ a ∧ a < 0x0200) := by omega
  simp only [writeAccess, if_neg h2, if_neg h6, if_neg h7, if_neg h8, if_neg hv, if_neg hx, if_neg hd, if_neg hs]

end WriteAccess

/-- Settles O7. -/
theorem idleWritesStoreTheWord : Obligations.IdleWritesStoreTheWord := by
  intro s a w lag rest hok hr hh gives n
  have hat : ∀ m t, n = m → m ≠ 5 →
      writeAccess m w { s with host := rest } = ({ t with host := rest } : State).answer (.writeDone false) →
      gives t := fun m t hn hm ht => by
    have hn5 : a.toNat ≠ 5 := fun h => hm (hn.symm.trans h)
    have hm' : a.toNat = m := hn
    refine (step_write hok hr hh hn5).trans ?_
    rw [hm', ht]
    rfl
  refine ⟨fun h => hat _ _ h (by omega) ?_, fun h => hat _ _ h (by omega) rfl, fun h => hat _ _ h (by omega) rfl,
    fun k h => hat _ _ h (by omega) ?_, fun k h => hat _ _ h (by omega) ?_, fun k h => hat _ _ h (by omega) ?_⟩
  · refine congrArg (fun f => ({ s with host := rest, flags := s.flags &&& ~~~f } : State).answer (.writeDone false)) ?_
    simp
  · rw [writeAccess_v _ w k.isLt, State.setV, setIfInBounds_eq_set]
  · rw [writeAccess_x _ w k.isLt, State.setX, setIfInBounds_eq_set]
  · rw [writeAccess_dlreq _ w k.isLt, setIfInBounds_eq_set]

/-- The addresses without a readable or writable word: the gaps of the map, the unknown parameters, the fourth word of
each bank's history (R23). -/
def reservedAddr (c : Config) (n : Nat) : Prop :=
  (0x000D ≤ n ∧ n < 0x0010) ∨ (0x0028 ≤ n ∧ n < 0x0040) ∨ (0x00A0 ≤ n ∧ n < 0x0100) ∨
  (0x0100 ≤ n ∧ n < 0x0200 ∧ paramSpec c (n - 0x0100) = none) ∨
  (0x0200 ≤ n ∧ n < 0x0300 ∧ paramSpec c (n - 0x0200) = none) ∨
  (0x0300 ≤ n ∧ n < 0x0340 ∧ n % 4 = 3) ∨ 0x0347 ≤ n

theorem regRead_reserved {s : State} {n : Nat} (h : reservedAddr s.cfg n) : s.regRead n = none := by
  rcases h with h | h | h | ⟨hlo, hhi, hp⟩ | ⟨hlo, hhi, hp⟩ | ⟨hlo, hhi, hmod⟩ | h
  · simp (disch := omega) only [State.regRead, if_neg, if_pos]
  · simp (disch := omega) only [State.regRead, if_neg, if_pos]
  · simp (disch := omega) only [State.regRead, if_neg, if_pos]
  · obtain ⟨p, rfl⟩ := Nat.exists_eq_add_of_le hlo
    rw [Nat.add_sub_cancel_left] at hp
    rw [regRead_shadow s (by omega), bankRead_unknown hp]
  · obtain ⟨p, rfl⟩ := Nat.exists_eq_add_of_le hlo
    rw [Nat.add_sub_cancel_left] at hp
    rw [regRead_active s (by omega), bankRead_unknown hp]
  · obtain ⟨k, rfl⟩ := Nat.exists_eq_add_of_le hlo
    rw [regRead_history s (by omega), historyWord_reserved s (by omega)]
  · simp (disch := omega) only [State.regRead, if_neg]

theorem shadowWrite_unknown {s : State} {p : Nat} (hp : paramSpec s.cfg p = none) (w : Word) :
    shadowWrite p w s = s.rejectBus .badid (0x0100 + p) true := by
  rw [shadowWrite, hp]

theorem writeAccess_reserved {s : State} {n : Nat} (h : reservedAddr s.cfg n) (w : Word) :
    writeAccess n w s = s.rejectBus .badid n true := by
  by_cases hs : 0x0100 ≤ n ∧ n < 0x0200
  · obtain ⟨p, rfl⟩ := Nat.exists_eq_add_of_le hs.1
    have hp : paramSpec s.cfg p = none := by
      rcases h with h | h | h | ⟨-, -, hp⟩ | ⟨hlo, -, -⟩ | ⟨hlo, -, -⟩ | h
      · omega
      · omega
      · omega
      · rwa [Nat.add_sub_cancel_left] at hp
      · omega
      · omega
      · omega
    rw [writeAccess_shadow s w (by omega), shadowWrite_unknown hp]
  · have hn : 0x000D ≤ n ∧ (n < 0x0010 ∨ (0x0028 ≤ n ∧ n < 0x0040) ∨ (0x0060 ≤ n ∧ n < 0x0100) ∨ 0x0200 ≤ n) := by
      rcases h with h | h | h | h | h | h | h <;> omega
    exact writeAccess_refuses s w hn.2 (by omega) (by omega) (by omega) (by omega)

/-- Settles O8. -/
theorem idleUnitRefusesWhatTheMapDoesNotAllow : Obligations.IdleUnitRefusesWhatTheMapDoesNotAllow := by
  intro s a rest hok hr n reserved readOnly
  have hres : reserved → reservedAddr s.cfg n := id
  have hlarge : reservedAddr s.cfg n → 0x000D ≤ n := fun h => by rcases h with h | h | h | h | h | h | h <;> omega
  refine ⟨fun hh h => ?_, fun w lag hh h => ?_⟩
  · have hn : n ≠ 8 := fun he => absurd (hlarge (hres h)) (by omega)
    exact step_read_refuses hok hr hh hn (regRead_reserved (hres h))
  · have href : n ≠ 5 ∧ writeAccess n w { s with host := rest } =
        ({ s with host := rest } : State).rejectBus .badid n true := by
      rcases h with h | h
      · have hn := hlarge (hres h)
        exact ⟨by omega, writeAccess_reserved (s := { s with host := rest }) (hres h) w⟩
      · have hn : n < 0x0010 ∨ (0x0060 ≤ n ∧ n < 0x0100) ∨ 0x0200 ≤ n := by
          rcases h with h | h | h | h | h | h | h <;> omega
        have hne : n ≠ 2 ∧ n ≠ 5 ∧ n ≠ 6 ∧ n ≠ 7 ∧ n ≠ 8 := by
          rcases h with h | h | h | h | h | h | h <;> omega
        obtain ⟨h2, h5, h6, h7, h8⟩ := hne
        exact ⟨h5, writeAccess_refuses _ w (by omega) h2 h6 h7 h8⟩
    refine (step_write hok hr hh href.1).trans ?_
    have hw : writeAccess a.toNat w { s with host := rest } = _ := href.2
    rw [hw]
    rfl

/-! ### Reset (R280) -/

theorem getD_replicate (n i : Nat) : (Vector.replicate n (0 : Word))[i]?.getD 0 = 0 := by
  rw [Vector.getElem?_replicate]
  split <;> rfl

theorem paramSpec_lt {c : Config} {p : Nat} {sp : ParamSpec} (h : paramSpec c p = some sp) : p < 256 := by
  by_contra hp
  have h0 : ¬ (p < 0xE0 + c.nchMax ∧ p < 0xF0) := by omega
  simp (disch := omega) only [paramSpec, if_neg h0, if_neg] at h
  exact absurd h (by simp)

theorem bankReset_known {c : Config} {p : Nat} {sp : ParamSpec} (h : paramSpec c p = some sp) :
    (bankReset c)[p]? = some (BitVec.ofInt 32 sp.reset) := by
  rw [bankReset, Vector.getElem?_ofFn, dif_pos (paramSpec_lt h)]
  simp only [paramReset, h]

theorem read_unwritten {w : Nat} (free : BitVec w) (j : Nat) : (Memory.unwritten : Memory w).read free j = free := rfl

/-- Settles O11: a reset takes effect whether the unit is busy or not. -/
theorem resetLeavesTheResetTable : Obligations.ResetLeavesTheResetTable := by
  intro s rest hok hh
  refine ⟨_, step_input hok hh, rfl, rfl, rfl, rfl, rfl, rfl, rfl, rfl, rfl, getD_replicate 16, getD_replicate 8,
    fun d => ⟨getD_replicate 32 d, getD_replicate 32 d, getD_replicate 32 d⟩,
    fun p sp hp => ⟨bankReset_known hp, bankReset_known hp⟩,
    fun f => ⟨getD_replicate 16 f, getD_replicate 16 f, getD_replicate 16 f⟩, rfl, rfl, fun k => ?_, rfl, rfl, rfl, rfl,
    fun k => Memory.read_zeros _ k, fun j => ⟨read_unwritten _ j, read_unwritten _ j, read_unwritten _ j⟩⟩
  and_intros <;> exact Memory.read_zeros _ k

/-! ### Every input completes (R82, R261) -/

theorem startCommand_total (w : Word) (lag : Nat) (s : State) : ∃ t, startCommand w lag s = .next t := by
  cases hd : decode w with
  | error e => exact ⟨_, startCommand_bad hd lag s⟩
  | ok i =>
    obtain ⟨t, ht⟩ := exec_total i s
    by_cases hlag : lag = 0
    · subst hlag
      exact ⟨t, (startCommand_at_once hd s).trans ht⟩
    · rw [startCommand_later hd hlag ht]
      split <;> exact ⟨_, rfl⟩

theorem settle_total (r : Running) (s : State) : ∃ t, settle r s = .next t := by
  rw [settle]
  split
  · exact exec_total r.instr s
  · exact ⟨_, rfl⟩

theorem readStep_total (a : Nat) (s : State) : ∃ t, readStep a s = .next t := by
  cases hr : s.running with
  | none => exact ⟨_, readStep_idle hr a⟩
  | some r => exact readStep_busy hr a ▸ settle_total r _

theorem writeStep_total (a : Nat) (w : Word) (lag : Nat) (s : State) : ∃ t, writeStep a w lag s = .next t := by
  cases hr : s.running with
  | none =>
    by_cases ha : a = cmdAddr
    · subst ha
      exact writeStep_cmd hr w lag ▸ startCommand_total w lag _
    · exact ⟨_, writeStep_idle hr ha w lag⟩
  | some r => exact writeStep_busy hr a w lag ▸ settle_total r _

theorem hostStep_total {op : HostOp} (h : visible op = true) (s : State) : ∃ t, hostStep op s = .next t := by
  cases op with
  | read a => exact readStep_total a.toNat s
  | write a w lag => exact writeStep_total a.toNat w lag s
  | reset => exact ⟨_, rfl⟩
  | bridgeRead b n =>
    rw [hostStep, if_pos (show wholeWord b n = true from h)]
    exact readStep_total _ s
  | bridgeWrite b n w lag =>
    rw [hostStep, if_pos (show wholeWord b n = true from h)]
    exact writeStep_total _ w lag s

theorem idleStep_running {s : State} {r : Running} (hr : s.running = some r) : idleStep s = exec r.instr s := by
  rw [idleStep, hr]

theorem idleStep_idle {s : State} (hr : s.running = none) : idleStep s = .next s := by
  rw [idleStep, hr]

theorem idleStep_total (s : State) : ∃ t, idleStep s = .next t := by
  cases hr : s.running with
  | none => exact ⟨_, idleStep_idle hr⟩
  | some r => exact idleStep_running hr ▸ exec_total r.instr s

theorem wholeWord_iff (b : BitVec 18) (n : Nat) : wholeWord b n = true ↔ b.toNat % 4 = 0 ∧ n = 4 := by
  simp [wholeWord]

/-- Settles O12. -/
theorem everyVisibleTransactionCompletes : Obligations.EveryVisibleTransactionCompletes := by
  refine ⟨fun s hok hv => ?_, fun s b bytes lag w rest hok => ?_, fun s hok => ?_, fun s hok hh => ?_⟩
  · cases hh : s.host with
    | nil =>
      rw [Completes, step_no_input hok hh]
      exact idleStep_total s
    | cons op rest =>
      rw [Completes, step_input hok hh]
      exact hostStep_total (hv op (by simp [hh])) _
  · intro after a
    have hafter : ∀ op, after op = hostStep op { s with host := rest } := fun op =>
      step_input (s := { s with host := op :: rest }) hok rfl
    have ha : a.toNat = b.toNat / 4 := by
      have hb := b.isLt
      rw [BitVec.toNat_ofNat, Nat.mod_eq_of_lt (by omega)]
    refine ⟨fun hal hn => ?_, fun h => ?_⟩
    · have hw := (wholeWord_iff b bytes).mpr ⟨hal, hn⟩
      simp only [hafter, hostStep, if_pos hw, ha, and_self]
    · have hw : ¬ wholeWord b bytes = true := fun h' => by
        obtain ⟨h4, hn⟩ := (wholeWord_iff b bytes).mp h'
        exact h.elim (· h4) (· hn)
      simp only [hafter, hostStep, if_neg hw, and_self]
  · simp only [step, transact, hok, Bool.not_false, if_true]
  · rw [step_no_input hok hh]
    exact ⟨idleStep_idle, fun r => idleStep_running⟩

end Sys2Proof.Proofs
end

section
/-! # The parameter table (10_state.md R37 to R39) and the memory window (20_memory.md R77, R78, R86) -/

namespace Sys2Proof.Proofs

open Sys2Proof.Machine Sys2Proof.Safety

-- Proofs one after the other: each thread of the compiler counts against the check's memory limit.
set_option Elab.async false

/-! ### The table of R37 -/

/-- The largest line, biquad bank and all-pass bank. -/
theorem banks_top : (ndl : Int) - 1 = 31 ∧ (nbq : Int) - 1 = 15 ∧ (nap : Int) - 1 = 7 := ⟨rfl, rfl, rfl⟩

section ParamTable

variable (c : Config)

/-- Every row the model knows is a row of the table. -/
theorem mem_r37_of_paramSpec {p : Nat} {sp : ParamSpec} (h : paramSpec c p = some sp) : (p, sp) ∈ r37 c := by
  simp only [r37, List.mem_append, List.mem_flatMap, List.mem_range, List.mem_map, List.mem_filter, decide_eq_true_eq]
  by_cases hbq : p < 0x80
  · refine .inl (.inl (.inl (.inl (.inl (.inl ⟨p / 8, by omega, ?_⟩)))))
    obtain ⟨f, hf⟩ : ∃ f, f = p / 8 := ⟨_, rfl⟩
    rw [← hf]
    rw [paramSpec, if_pos hbq] at h
    split at h
    · cases h
      rw [show p = 8 * f by omega]
      simp
    · split at h
      · cases h
        obtain h1 | h1 | h1 | h1 : p = 8 * f + 1 ∨ p = 8 * f + 2 ∨ p = 8 * f + 3 ∨ p = 8 * f + 4 := by omega
        all_goals rw [h1]; simp
      · cases h
  by_cases hap : p < 0xA0
  · refine .inl (.inl (.inl (.inl (.inl (.inr ⟨(p - 0x80) / 4, by omega, ?_⟩)))))
    obtain ⟨f, hf⟩ : ∃ f, f = (p - 0x80) / 4 := ⟨_, rfl⟩
    rw [← hf]
    rw [paramSpec, if_neg hbq, if_pos hap] at h
    split at h
    · cases h
      rw [show p = 0x80 + 4 * f by omega]
      simp
    · split at h
      · cases h
        rw [show p = 0x81 + 4 * f by omega]
        simp
      · split at h
        · cases h
          rw [show p = 0x82 + 4 * f by omega]
          simp
        · cases h
  by_cases hmix : p < 0xA4
  · refine .inl (.inl (.inl (.inl (.inr ?_))))
    obtain rfl | rfl | rfl | rfl : p = 0xA0 ∨ p = 0xA1 ∨ p = 0xA2 ∨ p = 0xA3 := by omega
    all_goals cases h <;> simp
  by_cases hfdn : p < 0xC0
  · refine .inl (.inl (.inl (.inr ⟨p % 4, by omega, ?_⟩)))
    obtain ⟨k, hk⟩ : ∃ k, k = p % 4 := ⟨_, rfl⟩
    rw [← hk]
    obtain hp | hp | hp | hp | hp : p = 0xA4 + k ∨ p = 0xA8 + k ∨ p = 0xAC + k ∨ p = 0xB0 + k ∨ 0xB4 ≤ p := by omega
    all_goals
      simp (disch := omega) only [paramSpec, if_pos, if_neg] at h
      cases h <;> simp [hp]
  by_cases hcomp : p < 0xCC
  · refine .inl (.inl (.inr ?_))
    interval_cases p <;> cases h <;> simp [one]
  by_cases hpv : p < 0xE0
  · refine .inl (.inr ?_)
    interval_cases p <;> cases h <;> simp [one, pvNormReset]
  · have hpan : p < 0xE0 + c.nchMax ∧ p < 0xF0 := by
      by_contra hno
      simp (disch := omega) only [paramSpec, if_neg hno, if_neg] at h
      cases h
    simp (disch := omega) only [paramSpec, if_pos hpan, if_neg] at h
    cases h
    exact .inr ⟨p - 0xE0, by omega, by rw [show 0xE0 + (p - 0xE0) = p by omega]⟩

/-- Every row of the table is the row the model gives its index. -/
theorem paramSpec_of_mem_r37 {p : Nat} {sp : ParamSpec} (h : (p, sp) ∈ r37 c) : paramSpec c p = some sp := by
  simp only [r37, List.mem_append, List.mem_flatMap, List.mem_range, List.mem_map, List.mem_filter, decide_eq_true_eq,
    List.mem_cons, List.not_mem_nil, or_false, Prod.mk.injEq] at h
  rcases h with (((((⟨f, hf, h⟩ | ⟨a, ha, h⟩) | h) | ⟨k, hk, h⟩) | h) | h) | ⟨k, hk, h⟩
  · rcases h with ⟨rfl, rfl⟩ | ⟨rfl, rfl⟩ | ⟨rfl, rfl⟩ | ⟨rfl, rfl⟩ | ⟨rfl, rfl⟩ <;>
      simp (disch := omega) only [paramSpec, if_pos, if_neg]
  · rcases h with ⟨rfl, rfl⟩ | ⟨rfl, rfl⟩ | ⟨rfl, rfl⟩ <;>
      simp (disch := omega) only [paramSpec, if_pos, if_neg, banks_top]
  · rcases h with ⟨rfl, rfl⟩ | ⟨rfl, rfl⟩ | ⟨rfl, rfl⟩ <;> rfl
  · rcases h with ⟨rfl, rfl⟩ | ⟨rfl, rfl⟩ | ⟨rfl, rfl⟩ | ⟨rfl, rfl⟩ <;>
      simp (disch := omega) only [paramSpec, if_pos, if_neg, banks_top]
  · rcases h with ⟨rfl, rfl⟩ | ⟨rfl, rfl⟩ | ⟨rfl, rfl⟩ | ⟨rfl, rfl⟩ | ⟨rfl, rfl⟩ | ⟨rfl, rfl⟩ | ⟨rfl, rfl⟩ |
      ⟨rfl, rfl⟩ | ⟨rfl, rfl⟩ | ⟨rfl, rfl⟩ | ⟨rfl, rfl⟩ | ⟨rfl, rfl⟩ <;> rfl
  · rcases h with ⟨rfl, rfl⟩ | ⟨rfl, rfl⟩ | ⟨rfl, rfl⟩ | ⟨rfl, rfl⟩ <;> rfl
  · obtain ⟨rfl, rfl⟩ := h
    have h0 : 0xE0 + k < 0xE0 + c.nchMax ∧ 0xE0 + k < 0xF0 := by omega
    simp (disch := omega) only [paramSpec, if_pos h0, if_pos, if_neg]

end ParamTable

/-! ### Shadow writes (R38, R39) -/

/-- `PS[p] <- w` and the write's answer. -/
def storedShadow (p : Fin 256) (w : Word) (s : State) : State :=
  { s with resp := some (.writeDone false), ps := s.ps.set p w }

theorem setShadow_answer (s : State) (p : Fin 256) (w : Word) :
    (s.setShadow p w).answer (.writeDone false) = storedShadow p w s := by
  rw [State.setShadow, setIfInBounds_eq_set]
  rfl

theorem legal_iff (sp : ParamSpec) (w : Word) :
    sp.legal w = true ↔ sp.lo ≤ sp.fmt.value w ∧ sp.fmt.value w ≤ sp.hi := by
  simp only [ParamSpec.legal, Bool.and_eq_true, decide_eq_true_eq]

section ShadowWrite

variable {s : State} {p : Fin 256} {sp : ParamSpec} (hp : paramSpec s.cfg p = some sp) (w : Word)

include hp

theorem shadowWrite_bad_mode (hm : p.val = 0xCA) (hw : 3 < w.toNat) :
    shadowWrite p w s = s.rejectBus .badid (0x0100 + p) true := by
  rw [shadowWrite, hp]
  exact if_pos ⟨hm, hw⟩

theorem shadowWrite_knee (hk : p.val = 0xC4) :
    shadowWrite p w s = storedShadow p (BitVec.ofInt 32 (max 0 w.toInt)) s := by
  have hm : ¬ (p.val = pCMode ∧ 3 < w.toNat) := by
    rw [pCMode]
    omega
  rw [shadowWrite, hp]
  exact (if_neg hm).trans ((if_pos hk).trans (setShadow_answer s p _))

theorem shadowWrite_plain (hm : ¬ (p.val = 0xCA ∧ 3 < w.toNat)) (hk : p.val ≠ 0xC4) : shadowWrite p w s =
    if sp.legal w then storedShadow p w s else s.rejectBus .range (0x0100 + p) true := by
  rw [shadowWrite, hp, ← setShadow_answer]
  exact (if_neg hm).trans (if_neg hk)

end ShadowWrite

/-- Settles O9. -/
theorem shadowWritesAreValidated : Obligations.ShadowWritesAreValidated := by
  refine ⟨fun c p sp => ⟨mem_r37_of_paramSpec c, paramSpec_of_mem_r37 c⟩, ?_⟩
  intro s a w lag rest p sp hok hr hh ha hp value refused stored
  have hvalue : value = sp.fmt.value w := by
    cases h : sp.fmt <;> simp only [value, h] <;> rfl
  have hstep : ∀ t, shadowWrite p w { s with host := rest } = t → step s = .next t := fun t ht => by
    have hp256 := p.isLt
    rw [step_write hok hr hh (by omega), ha, writeAccess_shadow _ w hp256, ht]
  have hp' : paramSpec ({ s with host := rest } : State).cfg p = some sp := hp
  have hinfo : ∀ e, ({ s with host := rest } : State).rejectBus e (0x0100 + p) true =
      refused e (flagBit e.code) := fun e => by
    have hb : busInfo (0x0100 + p) true = BitVec.ofNat 32 (0x80000100 + p) := by
      rw [busInfo, if_pos rfl]
      congr 1
      omega
    simp only [State.rejectBus, hb]
    rfl
  refine ⟨fun hm hw => ?_, fun hk hw => ?_, fun hm hl => ?_, fun hlo hhi hk => ?_⟩
  · exact hstep _ ((shadowWrite_bad_mode hp' w hm hw).trans (hinfo .badid))
  · refine hstep _ ((shadowWrite_knee hp' w hk).trans ?_)
    rw [max_eq_left (by omega)]
    rfl
  · have hlegal : ¬ sp.legal w = true := fun h => hl (hvalue ▸ (legal_iff sp w).mp h)
    have hk : p.val ≠ 0xC4 := fun hk => by
      rw [hk] at hp
      cases hp
      exact hlegal ((legal_iff _ w).mpr (word_toInt_mem w))
    exact hstep _ ((shadowWrite_plain hp' w (fun h => hm h.1) hk).trans ((if_neg hlegal).trans (hinfo .range)))
  · rw [hvalue] at hlo hhi
    by_cases hk4 : p.val = 0xC4
    · refine hstep _ ((shadowWrite_knee hp' w hk4).trans ?_)
      rw [max_eq_right (hk hk4), BitVec.ofInt_toInt]
      rfl
    · have hmode : ¬ (p.val = 0xCA ∧ 3 < w.toNat) := fun ⟨hm, hw⟩ => by
        rw [hm] at hp
        cases hp
        have : (w.toNat : Int) ≤ 3 := hhi
        omega
      exact hstep _ ((shadowWrite_plain hp' w hmode hk4).trans (if_pos ((legal_iff sp w).mpr ⟨hlo, hhi⟩)))

end Sys2Proof.Proofs
end

section
/-! # The memory window (20_memory.md R77, R78, R86) -/

namespace Sys2Proof.Proofs

open Sys2Proof.Machine Sys2Proof.Safety

-- Proofs one after the other: each thread of the compiler counts against the check's memory limit.
set_option Elab.async false

/-! ### The spaces, their sizes and their words -/

/-- The sizes of the model are those of R86. -/
theorem windowSize_eq (c : Config) (sp : Nat) : windowSize c sp = (windowSizes c)[sp]? := by
  by_cases h : sp < 18
  · interval_cases sp <;> rfl
  · obtain ⟨n, rfl⟩ := Nat.exists_eq_add_of_le' (Nat.le_of_not_lt h)
    rfl

theorem windowSizes_none {c : Config} {sp : Nat} (h : 17 < sp) : (windowSizes c)[sp]? = none :=
  List.getElem?_eq_none (Nat.succ_le_of_lt h)

theorem windowError_badid {s : State} (h : 17 < s.msel.toNat) : s.windowError = some .badid := by
  rw [State.windowError, windowSize_eq, windowSizes_none h]

theorem windowError_range {s : State} {size : Nat} (h : (windowSizes s.cfg)[s.msel.toNat]? = some size)
    (hm : size ≤ s.maddr.toNat) : s.windowError = some .range := by
  rw [State.windowError, windowSize_eq, h]
  exact if_pos hm

theorem windowError_none {s : State} {size : Nat} (h : (windowSizes s.cfg)[s.msel.toNat]? = some size)
    (hm : s.maddr.toNat < size) : s.windowError = none := by
  rw [State.windowError, windowSize_eq, h]
  exact if_neg (by omega)

theorem freqLow_eq (f : Freq) : freqLow f = f.setWidth 32 := by
  apply BitVec.eq_of_toNat_eq
  have hf := f.isLt
  rw [freqLow, BitVec.toNat_ofInt, BitVec.toNat_setWidth, BitVec.toInt_eq_toNat_cond]
  split <;> omega

theorem freqHigh_eq (f : Freq) : freqHigh f = (f.extractLsb' 32 16).signExtend 32 := by
  have hf := f.isLt
  have hhigh : (f.extractLsb' 32 16).toInt = f.toInt / 2 ^ 32 := by
    rw [BitVec.toInt_eq_toNat_cond, BitVec.toInt_eq_toNat_cond, BitVec.extractLsb'_toNat, Nat.shiftRight_eq_div_pow]
    split <;> split <;> omega
  apply BitVec.eq_of_toInt_eq
  rw [BitVec.toInt_signExtend_of_le (by omega), hhigh, freqHigh, toInt_ofInt_word]
  all_goals
    rw [BitVec.toInt_eq_toNat_cond]
    split <;> omega

theorem freqWord_even (arr : Memory 48) (k : Nat) : freqWord arr (2 * k) = (arr.read 0 k).setWidth 32 := by
  rw [freqWord, if_pos (by omega), freqLow_eq, show 2 * k / 2 = k by omega]
  rfl

theorem freqWord_odd (arr : Memory 48) (k : Nat) :
    freqWord arr (2 * k + 1) = ((arr.read 0 k).extractLsb' 32 16).signExtend 32 := by
  rw [freqWord, if_neg (by omega), freqHigh_eq, show (2 * k + 1) / 2 = k by omega]
  rfl

theorem toInt_twr (c : Config) (m : Nat) : (BitVec.ofInt 32 (twr c m)).toInt = twr c m := by
  have h := abs_le.mp (abs_cost_le (BitVec.ofNat 32 (m * twiddleStep c)))
  exact toInt_ofInt_word (by rw [twr]; omega) (by rw [twr]; omega)

theorem toInt_twi (c : Config) (m : Nat) : (BitVec.ofInt 32 (twi c m)).toInt = twi c m := by
  have h := abs_le.mp (abs_sint_le (BitVec.ofNat 32 (m * twiddleStep c)))
  exact toInt_ofInt_word (by rw [twi]; omega) (by rw [twi]; omega)

/-- Every word of the window is in [0, ONE] (R18). -/
theorem hann_mem (c : Config) (m : Nat) : 0 ≤ hann c m ∧ hann c m ≤ 16777216 := by
  have h := abs_le.mp (abs_cost_le (BitVec.ofNat 32 (m * twiddleStep c)))
  rw [hann, one]
  omega

theorem toInt_hann (c : Config) (m : Nat) : (BitVec.ofInt 32 (hann c m)).toInt = hann c m := by
  have h := hann_mem c m
  exact toInt_ofInt_word (by omega) (by omega)

/-- The word of each space (R86). -/
theorem windowWord_cases (s : State) (sp m : Nat) :
    (sp = 0 → s.windowWord sp m = s.dmAt m) ∧ (sp = 1 → s.windowWord sp m = s.xbufAt m) ∧
    (sp = 2 → s.windowWord sp m = s.ybufAt m) ∧ (sp = 3 → s.windowWord sp m = s.pv.fr.read 0 m) ∧
    (sp = 4 → s.windowWord sp m = s.pv.fi.read 0 m) ∧ (sp = 5 → s.windowWord sp m = s.pv.inf.read 0 m) ∧
    (sp = 6 → s.windowWord sp m = s.pv.outf.read 0 m) ∧ (sp = 7 → s.windowWord sp m = s.pv.acc.read 0 m) ∧
    (sp = 8 → s.windowWord sp m = s.pv.lastph.read 0 m) ∧ (sp = 9 → s.windowWord sp m = s.pv.sumph.read 0 m) ∧
    (sp = 10 → s.windowWord sp m = s.pv.amag.read 0 m) ∧ (sp = 12 → s.windowWord sp m = s.pv.smag.read 0 m) ∧
    (sp = 14 → s.windowWord sp m = s.env.win.read 0 m) ∧
    (∀ k, sp = 11 → m = 2 * k → s.windowWord sp m = (s.pv.afrq.read 0 k).setWidth 32) ∧
    (∀ k, sp = 11 → m = 2 * k + 1 →
      s.windowWord sp m = ((s.pv.afrq.read 0 k).extractLsb' 32 16).signExtend 32) ∧
    (∀ k, sp = 13 → m = 2 * k → s.windowWord sp m = (s.pv.sfrq.read 0 k).setWidth 32) ∧
    (∀ k, sp = 13 → m = 2 * k + 1 →
      s.windowWord sp m = ((s.pv.sfrq.read 0 k).extractLsb' 32 16).signExtend 32) ∧
    (sp = 15 → (s.windowWord sp m).toInt = twr s.cfg m) ∧ (sp = 16 → (s.windowWord sp m).toInt = twi s.cfg m) ∧
    (sp = 17 → (s.windowWord sp m).toInt = hann s.cfg m) := by
  refine ⟨?_, ?_, ?_, ?_, ?_, ?_, ?_, ?_, ?_, ?_, ?_, ?_, ?_, fun k => ?_, fun k => ?_, fun k => ?_, fun k => ?_, ?_,
    ?_, ?_⟩ <;> rintro rfl
  case refine_14 => rintro rfl; exact freqWord_even _ k
  case refine_15 => rintro rfl; exact freqWord_odd _ k
  case refine_16 => rintro rfl; exact freqWord_even _ k
  case refine_17 => rintro rfl; exact freqWord_odd _ k
  case refine_18 => exact toInt_twr s.cfg m
  case refine_19 => exact toInt_twi s.cfg m
  case refine_20 => exact toInt_hann s.cfg m
  all_goals rfl

/-! ### MDATA (R77) -/

theorem mdataRead_error {s : State} {e : Err} (h : s.windowError = some e) :
    mdataRead s = s.rejectBus e mdataAddr false := by
  rw [mdataRead, h]

theorem mdataRead_ok {s : State} (h : s.windowError = none) : mdataRead s =
    (s.answer (.readDone (s.windowWord s.msel.toNat s.maddr.toNat) false)).bumpMaddr := by
  rw [mdataRead, h]

theorem mdataWrite_error {s : State} {e : Err} (h : s.windowError = some e) (w : Word) :
    mdataWrite w s = s.rejectBus e mdataAddr true := by
  rw [mdataWrite, h]

theorem mdataWrite_xbuf {s : State} (h : s.windowError = none) (hx : s.msel.toNat = 1) (w : Word) :
    mdataWrite w s = ((s.writeX s.maddr.toNat w).answer (.writeDone false)).bumpMaddr := by
  rw [mdataWrite, h]
  exact if_pos hx

theorem mdataWrite_ybuf {s : State} (h : s.windowError = none) (hy : s.msel.toNat = 2) (w : Word) :
    mdataWrite w s = ((s.writeY s.maddr.toNat w).answer (.writeDone false)).bumpMaddr := by
  rw [mdataWrite, h]
  exact (if_neg (by rw [hy, spaceX]; omega)).trans (if_pos hy)

theorem mdataWrite_other {s : State} (h : s.windowError = none) (hx : s.msel.toNat ≠ 1) (hy : s.msel.toNat ≠ 2)
    (w : Word) : mdataWrite w s = s.rejectBus .badid mdataAddr true := by
  rw [mdataWrite, h]
  exact (if_neg hx).trans (if_neg hy)

/-- Settles O10. -/
theorem memoryWindowReadsWritesAndSteps : Obligations.MemoryWindowReadsWritesAndSteps := by
  intro s rest hok hr sp m refused
  obtain ⟨u, hu⟩ : ∃ u, u = ({ s with host := rest } : State) := ⟨_, rfl⟩
  have hsel : u.msel.toNat = sp := by rw [hu]
  have hadr : u.maddr.toNat = m := by rw [hu]
  have hcfg : u.cfg = s.cfg := by rw [hu]
  have hbad : 17 < sp → u.windowError = some .badid := fun h => windowError_badid (hsel ▸ h)
  have hrange : ∀ size, (windowSizes s.cfg)[sp]? = some size → size ≤ m → u.windowError = some .range :=
    fun size hs hm => windowError_range (hcfg ▸ hsel ▸ hs) (hadr ▸ hm)
  have hnone : ∀ size, (windowSizes s.cfg)[sp]? = some size → m < size → u.windowError = none :=
    fun size hs hm => windowError_none (hcfg ▸ hsel ▸ hs) (hadr ▸ hm)
  have href : ∀ e isWrite, u.rejectBus e mdataAddr isWrite = refused e (flagBit e.code) isWrite := fun e b => by
    rw [hu]
    cases b <;> rfl
  refine ⟨fun hh => ?_, fun w lag hh => ?_⟩
  · have hstep : step s = .next (mdataRead u) := hu ▸ step_read hok hr hh
    refine ⟨fun h => ?_, fun size hs => ⟨fun h => ?_, fun h => ?_⟩⟩
    · rw [hstep, mdataRead_error (hbad h), href]
      rfl
    · rw [hstep, mdataRead_error (hrange size hs h), href]
      rfl
    · refine ⟨u.windowWord sp m, ?_, ?_⟩
      · rw [hstep, mdataRead_ok (hnone size hs h), hsel, hadr]
        generalize u.windowWord sp m = w
        rw [hu]
        rfl
      · rw [hu]
        exact windowWord_cases { s with host := rest } sp m
  · have hstep : step s = .next (mdataWrite w u) := hu ▸ step_write hok hr hh (by decide)
    refine ⟨fun h => ?_, fun size hs => ⟨fun h => ?_, fun h hx hy => ?_, fun h hx => ?_, fun h hy => ?_⟩⟩
    · rw [hstep, mdataWrite_error (hbad h), href]
      rfl
    · rw [hstep, mdataWrite_error (hrange size hs h), href]
      rfl
    · rw [hstep, mdataWrite_other (hnone size hs h) (hsel ▸ hx) (hsel ▸ hy), href]
      rfl
    · refine ⟨_, hstep.trans (congrArg _ (mdataWrite_xbuf (hnone size hs h) (hsel ▸ hx) w)), ?_, fun j => ?_⟩
      · rw [hu]
        rfl
      · rw [hu]
        exact State.xbufAt_writeX s m j w
    · refine ⟨_, hstep.trans (congrArg _ (mdataWrite_ybuf (hnone size hs h) (hsel ▸ hy) w)), ?_, fun j => ?_⟩
      · rw [hu]
        rfl
      · rw [hu]
        exact State.ybufAt_writeY s m j w

end Sys2Proof.Proofs
end

section
/-! # What a step can do: edit the host's registers, run a command, or reset (00_scope.md section 7) -/

namespace Sys2Proof.Proofs

open Sys2Proof.Machine Sys2Proof.Safety

-- Proofs one after the other: each thread of the compiler counts against the check's memory limit.
set_option Elab.async false

/-! ### What a host input leaves without running a command -/

/-- The shadow bank after a host write: as before, or with a legal word at a known index (R38, R39). -/
def shadowEdited (c : Config) (bank bank' : Vector Word 256) : Prop :=
  bank' = bank ∨ ∃ p sp w, paramSpec c p = some sp ∧ sp.legal w = true ∧ (p = pCKnee → 0 ≤ w.toInt) ∧
    bank' = bank.setIfInBounds p w

/-- A memory after a host write of one word, or as before. -/
def memoryEdited (m m' : Memory 32) : Prop := m' = m ∨ ∃ j w, m' = m.write j w

/-- From `s` to `u` the host's registers, the error record and the port may differ, but no state of the unit's own. -/
structure HostEdit (s u : State) : Prop where
  cfg : u.cfg = s.cfg
  devok : u.devok = s.devok
  dlbase : u.dlbase = s.dlbase
  dllen : u.dllen = s.dllen
  dm : u.dm = s.dm
  pa : u.pa = s.pa
  pv : u.pv = s.pv
  env : u.env = s.env
  ps : shadowEdited s.cfg s.ps u.ps
  xbuf : memoryEdited s.xbuf u.xbuf
  ybuf : memoryEdited s.ybuf u.ybuf

/-- An edit that leaves both banks' words and both buffers. -/
theorem HostEdit.of_eq {s u : State} (hcfg : u.cfg = s.cfg) (hdev : u.devok = s.devok) (hbase : u.dlbase = s.dlbase)
    (hlen : u.dllen = s.dllen) (hdm : u.dm = s.dm) (hpa : u.pa = s.pa) (hpv : u.pv = s.pv) (henv : u.env = s.env)
    (hps : u.ps = s.ps) (hx : u.xbuf = s.xbuf) (hy : u.ybuf = s.ybuf) : HostEdit s u :=
  ⟨hcfg, hdev, hbase, hlen, hdm, hpa, hpv, henv, .inl hps, .inl hx, .inl hy⟩

/-- An edit followed by a change of what no invariant speaks of is an edit. -/
theorem HostEdit.congr {s u v : State} (h : HostEdit s u) (hv : HostEdit u v) (hps : v.ps = u.ps)
    (hx : v.xbuf = u.xbuf) (hy : v.ybuf = u.ybuf) : HostEdit s v :=
  ⟨hv.cfg.trans h.cfg, hv.devok.trans h.devok, hv.dlbase.trans h.dlbase, hv.dllen.trans h.dllen, hv.dm.trans h.dm,
    hv.pa.trans h.pa, hv.pv.trans h.pv, hv.env.trans h.env, by rw [hps]; exact h.ps, by rw [hx]; exact h.xbuf,
    by rw [hy]; exact h.ybuf⟩

theorem HostEdit.refl (s : State) : HostEdit s s := .of_eq rfl rfl rfl rfl rfl rfl rfl rfl rfl rfl rfl

section Edits

variable (s : State)

theorem edit_answer (r : Response) : HostEdit s (s.answer r) := .of_eq rfl rfl rfl rfl rfl rfl rfl rfl rfl rfl rfl

theorem edit_rejectBus (e : Err) (a : Nat) (b : Bool) : HostEdit s (s.rejectBus e a b) :=
  .of_eq rfl rfl rfl rfl rfl rfl rfl rfl rfl rfl rfl

theorem edit_raise (e : Err) (info : Word) : HostEdit s (s.raise e info) :=
  .of_eq rfl rfl rfl rfl rfl rfl rfl rfl rfl rfl rfl

theorem edit_complete : HostEdit s s.complete := .of_eq rfl rfl rfl rfl rfl rfl rfl rfl rfl rfl rfl

theorem edit_running (r : Option Running) : HostEdit s { s with running := r } :=
  .of_eq rfl rfl rfl rfl rfl rfl rfl rfl rfl rfl rfl

theorem edit_writeX (j : Nat) (w : Word) (r : Response) : HostEdit s (((s.writeX j w).answer r).bumpMaddr) :=
  ⟨rfl, rfl, rfl, rfl, rfl, rfl, rfl, rfl, .inl rfl, .inr ⟨j, w, rfl⟩, .inl rfl⟩

theorem edit_writeY (j : Nat) (w : Word) (r : Response) : HostEdit s (((s.writeY j w).answer r).bumpMaddr) :=
  ⟨rfl, rfl, rfl, rfl, rfl, rfl, rfl, rfl, .inl rfl, .inl rfl, .inr ⟨j, w, rfl⟩⟩

theorem edit_shadow {p : Nat} {sp : ParamSpec} {w : Word} (hp : paramSpec s.cfg p = some sp) (hw : sp.legal w = true)
    (hk : p = pCKnee → 0 ≤ w.toInt) (r : Response) : HostEdit s ((s.setShadow p w).answer r) :=
  ⟨rfl, rfl, rfl, rfl, rfl, rfl, rfl, rfl, .inr ⟨p, sp, w, hp, hw, hk, rfl⟩, .inl rfl, .inl rfl⟩

theorem edit_mdataRead : HostEdit s (mdataRead s) := by
  cases h : s.windowError with
  | none =>
    rw [mdataRead_ok h]
    exact .of_eq rfl rfl rfl rfl rfl rfl rfl rfl rfl rfl rfl
  | some e =>
    rw [mdataRead_error h]
    exact edit_rejectBus s e _ _

theorem edit_readAccess (a : Nat) : HostEdit s (readAccess a s) := by
  unfold readAccess
  split
  · exact edit_mdataRead s
  · split
    · exact edit_answer s _
    · exact edit_rejectBus s _ _ _

theorem edit_mdataWrite (w : Word) : HostEdit s (mdataWrite w s) := by
  unfold mdataWrite
  split
  · exact edit_rejectBus s _ _ _
  · split
    · exact edit_writeX s _ w _
    · split
      · exact edit_writeY s _ w _
      · exact edit_rejectBus s _ _ _

/-- The word that a write to C_KNEE stores is legal and not negative (R39). -/
theorem knee_legal {c : Config} {sp : ParamSpec} (h : paramSpec c pCKnee = some sp) (w : Word) :
    sp.legal (BitVec.ofInt 32 (max 0 w.toInt)) = true ∧ 0 ≤ (BitVec.ofInt 32 (max 0 w.toInt)).toInt := by
  cases h
  have hw := word_toInt_mem w
  refine ⟨(legal_iff _ _).mpr (word_toInt_mem _), ?_⟩
  rw [toInt_ofInt_word (by omega) (by omega)]
  omega

theorem edit_shadowWrite (p : Nat) (w : Word) : HostEdit s (shadowWrite p w s) := by
  unfold shadowWrite
  split
  · exact edit_rejectBus s _ _ _
  · next sp hp =>
    split
    · exact edit_rejectBus s _ _ _
    · split
      · next hk =>
        subst hk
        exact edit_shadow s hp (knee_legal hp w).1 (fun _ => (knee_legal hp w).2) _
      · next hk =>
        split
        · next hl => exact edit_shadow s hp hl (fun h => absurd h hk) _
        · exact edit_rejectBus s _ _ _

theorem edit_writeAccess (a : Nat) (w : Word) : HostEdit s (writeAccess a w s) := by
  have hplain : ∀ u : State, u.cfg = s.cfg → u.devok = s.devok → u.dlbase = s.dlbase → u.dllen = s.dllen →
      u.dm = s.dm → u.pa = s.pa → u.pv = s.pv → u.env = s.env → u.ps = s.ps → u.xbuf = s.xbuf → u.ybuf = s.ybuf →
      HostEdit s (u.answer (.writeDone false)) := fun _ h1 h2 h3 h4 h5 h6 h7 h8 h9 h10 h11 =>
    .of_eq h1 h2 h3 h4 h5 h6 h7 h8 h9 h10 h11
  unfold writeAccess
  split
  · exact hplain _ rfl rfl rfl rfl rfl rfl rfl rfl rfl rfl rfl
  split
  · exact hplain _ rfl rfl rfl rfl rfl rfl rfl rfl rfl rfl rfl
  split
  · exact hplain _ rfl rfl rfl rfl rfl rfl rfl rfl rfl rfl rfl
  split
  · exact edit_mdataWrite s w
  split
  · exact hplain _ rfl rfl rfl rfl rfl rfl rfl rfl rfl rfl rfl
  split
  · exact hplain _ rfl rfl rfl rfl rfl rfl rfl rfl rfl rfl rfl
  split
  · exact hplain _ rfl rfl rfl rfl rfl rfl rfl rfl rfl rfl rfl
  split
  · exact edit_shadowWrite s _ w
  · exact edit_rejectBus s _ _ _

theorem edit_busyRead (r : Running) (a : Nat) : HostEdit s (busyRead r a s) := by
  unfold busyRead
  split
  · exact edit_answer s _
  split
  · exact edit_answer s _
  split
  · exact .of_eq rfl rfl rfl rfl rfl rfl rfl rfl rfl rfl rfl
  split
  · exact edit_answer s _
  split
  · exact edit_answer s _
  · exact edit_rejectBus s _ _ _

theorem edit_hardReset : HostEdit (State.resetOf s.cfg (s.epoch + 1)) s.hardReset :=
  .of_eq rfl rfl rfl rfl rfl rfl rfl rfl rfl rfl rfl

end Edits

/-! ### What a step can do -/

/-- An outcome that edits the host's registers, or runs a command after such an edit. -/
def EditsOrRuns (s t : State) : Prop := HostEdit s t ∨ ∃ i u, HostEdit s u ∧ exec i u = .next t

theorem HostEdit.trans_host {s u : State} {ops : List HostOp} (h : HostEdit { s with host := ops } u) : HostEdit s u :=
  ⟨h.cfg, h.devok, h.dlbase, h.dllen, h.dm, h.pa, h.pv, h.env, h.ps, h.xbuf, h.ybuf⟩

theorem EditsOrRuns.trans_host {s t : State} {ops : List HostOp} (h : EditsOrRuns { s with host := ops } t) :
    EditsOrRuns s t := by
  rcases h with h | ⟨i, u, hu, ht⟩
  · exact .inl h.trans_host
  · exact .inr ⟨i, u, hu.trans_host, ht⟩

theorem settle_cases {s u t : State} {r : Running} (hu : HostEdit s u) (h : settle r u = .next t) :
    EditsOrRuns s t := by
  unfold settle at h
  split at h
  · exact .inr ⟨r.instr, u, hu, h⟩
  · cases h
    exact .inl (hu.congr (edit_running u _) rfl rfl rfl)

theorem startCommand_cases {s u t : State} {w : Word} {lag : Nat} (hu : HostEdit s u)
    (h : startCommand w lag u = .next t) : EditsOrRuns s t := by
  cases hd : decode w with
  | error e =>
    rw [startCommand_bad hd] at h
    cases h
    exact .inl (hu.congr (edit_raise u _ _) rfl rfl rfl)
  | ok i =>
    by_cases hlag : lag = 0
    · subst hlag
      rw [startCommand_at_once hd] at h
      exact .inr ⟨i, u, hu, h⟩
    · obtain ⟨t', ht'⟩ := exec_total i u
      rw [startCommand_later hd hlag ht'] at h
      split at h
      · cases h
        exact .inr ⟨i, u, hu, ht'⟩
      · cases h
        exact .inl (hu.congr (edit_running u _) rfl rfl rfl)

theorem readStep_cases {s t : State} {a : Nat} (h : readStep a s = .next t) : EditsOrRuns s t := by
  cases hr : s.running with
  | none =>
    rw [readStep_idle hr] at h
    cases h
    exact .inl (edit_readAccess s a)
  | some r =>
    rw [readStep_busy hr] at h
    exact settle_cases (edit_busyRead s r a) h

theorem writeStep_cases {s t : State} {a : Nat} {w : Word} {lag : Nat} (h : writeStep a w lag s = .next t) :
    EditsOrRuns s t := by
  cases hr : s.running with
  | none =>
    by_cases ha : a = cmdAddr
    · subst ha
      rw [writeStep_cmd hr] at h
      exact startCommand_cases (edit_answer s _) h
    · rw [writeStep_idle hr ha] at h
      cases h
      exact .inl (edit_writeAccess s a w)
  | some r =>
    rw [writeStep_busy hr] at h
    exact settle_cases (edit_rejectBus s _ _ _) h

/-- Everything a step can do. -/
theorem step_cases {s t : State} (h : step s = .next t) :
    s.cfg.ok = true ∧ (EditsOrRuns s t ∨ HostEdit (State.resetOf s.cfg (s.epoch + 1)) t) := by
  cases hok : s.cfg.ok with
  | false =>
    simp only [step, transact, hok, Bool.not_false, if_true] at h
    cases h
  | true =>
    refine ⟨rfl, ?_⟩
    cases hh : s.host with
    | nil =>
      rw [step_no_input hok hh] at h
      cases hr : s.running with
      | none =>
        rw [idleStep_idle hr] at h
        cases h
        exact .inl (.inl (.refl s))
      | some r =>
        rw [idleStep_running hr] at h
        exact .inl (.inr ⟨r.instr, s, .refl s, h⟩)
    | cons op rest =>
      rw [step_input hok hh] at h
      cases op with
      | read a => exact .inl (readStep_cases h).trans_host
      | write a w lag => exact .inl (writeStep_cases h).trans_host
      | reset =>
        cases h
        exact .inr (edit_hardReset { s with host := rest })
      | bridgeRead b n =>
        rw [hostStep] at h
        split at h
        · exact .inl (readStep_cases h).trans_host
        · cases h
      | bridgeWrite b n w lag =>
        rw [hostStep] at h
        split at h
        · exact .inl (writeStep_cases h).trans_host
        · cases h

/-- A predicate that the reset state meets, that edits keep and that every command's effect keeps is an invariant. -/
theorem invariant_of_effects {P : State → Prop}
    (hedit : ∀ s u, s.cfg.ok = true → HostEdit s u → P s → P u)
    (heffect : ∀ i s, s.cfg.ok = true → (i = .devupd → s.allocFits = true) → P s → P (effect i s))
    (hreset : ∀ c n, c.ok = true → P (State.resetOf c n)) {s t : State} (hs : P s) (h : step s = .next t) : P t := by
  obtain ⟨hok, (he | ⟨i, u, hu, ht⟩) | hr⟩ := step_cases h
  · exact hedit s t hok he hs
  · have hokU : u.cfg.ok = true := hu.cfg ▸ hok
    have hPu := hedit s u hok hu hs
    rcases exec_next_cases ht with ⟨e, info, rfl⟩ | ⟨-, -, hd, rfl⟩
    · exact hedit u _ hokU (edit_raise u e info) hPu
    · have hokE : (effect i u).cfg.ok = true := by rw [(effect_touchesOnly i u).unwritten.2.2.2.2.2.2.1]; exact hokU
      exact hedit _ _ hokE (edit_complete _) (heffect i u hokU hd hPu)
  · exact hedit (State.resetOf s.cfg (s.epoch + 1)) t hok hr (hreset s.cfg _ hok)

end Sys2Proof.Proofs
end

section
/-! # Steps keep the memories in canonical form (20_memory.md section 1) -/

namespace Sys2Proof.Proofs

open Sys2Proof.Machine Sys2Proof.Safety

-- Proofs one after the other: each thread of the compiler counts against the check's memory limit.
set_option Elab.async false

/-! ### Canonical memories -/

/-- The vocoder's memories are in canonical form. -/
def pvCanonical (p : PvState) : Prop :=
  (p.fr.wf = true ∧ p.fi.wf = true ∧ p.inf.wf = true ∧ p.outf.wf = true ∧ p.acc.wf = true) ∧
  (p.lastph.wf = true ∧ p.sumph.wf = true ∧ p.amag.wf = true ∧ p.afrq.wf = true ∧ p.smag.wf = true ∧
    p.sfrq.wf = true)

theorem memoriesCanonical_iff (s : State) : memoriesCanonical s ↔
    s.dm.wf = true ∧ s.xbuf.wf = true ∧ s.ybuf.wf = true ∧ s.env.win.wf = true ∧ pvCanonical s.pv := by
  simp only [memoriesCanonical, pvCanonical, and_assoc]

theorem pvCanonical_reset (c : Config) : pvCanonical (PvState.reset c) :=
  ⟨⟨rfl, rfl, rfl, rfl, rfl⟩, rfl, rfl, rfl, rfl, rfl, rfl⟩

/-- Each turn of a vocoder loop writes words of the vocoder's memories. -/
theorem pvCanonical_iter {n : Nat} {f : Nat → State → State} {s : State} (h : pvCanonical s.pv)
    (hf : ∀ k b, pvCanonical b.pv → pvCanonical (f k b).pv) : pvCanonical (iter n f s).pv :=
  iter_inv (fun _ b => pvCanonical b.pv) n f s h fun k b _ => hf k b

section PvCanonical

variable {s : State} (h : pvCanonical s.pv)

include h

theorem pvCanonical_frames {fr fi : Memory 32} (hr : fr.wf = true) (hi : fi.wf = true) :
    pvCanonical { s.pv with fr := fr, fi := fi } := by
  obtain ⟨⟨-, -, h3, h4, h5⟩, h6⟩ := h
  exact ⟨⟨hr, hi, h3, h4, h5⟩, h6⟩

theorem pvCanonical_bitRevSwap (k : Nat) : pvCanonical (bitRevSwap k s).pv := by
  unfold bitRevSwap
  dsimp only
  split
  · exact pvCanonical_frames h (Memory.wf_write _ _ _ (Memory.wf_write _ _ _ h.1.1))
      (Memory.wf_write _ _ _ (Memory.wf_write _ _ _ h.1.2.1))
  · exact h

theorem pvCanonical_butterfly (inv : Bool) (a b m : Nat) : pvCanonical (butterfly inv a b m s).pv := by
  unfold butterfly
  exact pvCanonical_frames h (Memory.wf_write _ _ _ (Memory.wf_write _ _ _ h.1.1))
    (Memory.wf_write _ _ _ (Memory.wf_write _ _ _ h.1.2.1))

theorem pvCanonical_fftRun (inv : Bool) : pvCanonical (fftRun inv s).pv :=
  pvCanonical_iter (pvCanonical_iter h fun k _ hb => pvCanonical_bitRevSwap hb k) fun _ _ hb =>
    pvCanonical_iter hb fun _ _ hb => pvCanonical_iter hb fun _ _ hb => pvCanonical_butterfly hb _ _ _ _

theorem pvCanonical_windowFrame : pvCanonical (windowFrame s).pv :=
  pvCanonical_iter h fun _ _ hb =>
    pvCanonical_frames hb (Memory.wf_write _ _ _ hb.1.1) (Memory.wf_write _ _ _ hb.1.2.1)

theorem pvCanonical_analyseFrame : pvCanonical (analyseFrame s).pv := by
  refine pvCanonical_iter h fun k b hb => ?_
  obtain ⟨hb1, h1, h2, h3, h4, h5⟩ := hb
  exact ⟨hb1, Memory.wf_write _ _ _ h1, h2, Memory.wf_write _ _ _ h3, Memory.wf_write _ _ _ h4, h5⟩

theorem pvCanonical_shifted {m : Memory 32} {f : Memory 48} (hm : m.wf = true) (hf : f.wf = true) :
    pvCanonical { s.pv with smag := m, sfrq := f } := by
  obtain ⟨h1, h2, h3, h4, h5, -⟩ := h
  exact ⟨h1, h2, h3, h4, h5, hm, hf⟩

theorem pvCanonical_shiftBin (k : Nat) : pvCanonical (shiftBin k s).pv := by
  unfold shiftBin
  split
  · exact pvCanonical_shifted h (Memory.wf_write _ _ _ h.2.2.2.2.2.1) (Memory.wf_write _ _ _ h.2.2.2.2.2.2)
  · exact h

theorem pvCanonical_shiftFrame : pvCanonical (shiftFrame s).pv :=
  pvCanonical_iter (pvCanonical_iter h fun _ _ hb => pvCanonical_shifted hb (Memory.wf_write _ _ _ hb.2.2.2.2.2.1)
    (Memory.wf_write _ _ _ hb.2.2.2.2.2.2)) fun k _ hb => pvCanonical_shiftBin hb k

theorem pvCanonical_synthBin (k : Nat) : pvCanonical (synthBin k s).pv := by
  obtain ⟨⟨h1, h2, h3, h4, h5⟩, h6, h7, h8⟩ := h
  exact ⟨⟨Memory.wf_write _ _ _ h1, Memory.wf_write _ _ _ h2, h3, h4, h5⟩, h6, Memory.wf_write _ _ _ h7, h8⟩

theorem pvCanonical_synthFrame : pvCanonical (synthFrame s).pv :=
  pvCanonical_iter (pvCanonical_iter h fun k _ hb => pvCanonical_synthBin hb k) fun _ _ hb =>
    pvCanonical_frames hb (Memory.wf_write _ _ _ hb.1.1) (Memory.wf_write _ _ _ hb.1.2.1)

end PvCanonical

theorem pvCanonical_overlapFrame {s : State} (h : pvCanonical s.pv) : pvCanonical (overlapFrame s).pv := by
  have hacc : ∀ (b : State) (j : Nat) (w : Word), pvCanonical b.pv →
      pvCanonical { b.pv with acc := b.pv.acc.write j w } :=
    fun b j w ⟨⟨h1, h2, h3, h4, h5⟩, h6⟩ => ⟨⟨h1, h2, h3, h4, Memory.wf_write _ _ _ h5⟩, h6⟩
  unfold overlapFrame
  refine pvCanonical_iter (pvCanonical_iter (pvCanonical_iter (pvCanonical_iter (pvCanonical_iter h ?_) ?_) ?_) ?_) ?_
  · exact fun k b hb => hacc b k _ hb
  · exact fun k b ⟨⟨h1, h2, h3, h4, h5⟩, h6⟩ => ⟨⟨h1, h2, h3, Memory.wf_write _ _ _ h4, h5⟩, h6⟩
  · exact fun k b hb => hacc b k _ hb
  · exact fun k b hb => hacc b _ _ hb
  · exact fun k b ⟨⟨h1, h2, h3, h4, h5⟩, h6⟩ => ⟨⟨h1, h2, Memory.wf_write _ _ _ h3, h4, h5⟩, h6⟩

theorem pvCanonical_vocoderFrame {s : State} (h : pvCanonical s.pv) : pvCanonical (vocoderFrame s).pv := by
  unfold vocoderFrame
  exact pvCanonical_overlapFrame (pvCanonical_fftRun (pvCanonical_synthFrame (pvCanonical_shiftFrame
    (pvCanonical_analyseFrame (pvCanonical_fftRun (pvCanonical_windowFrame h) false)))) true)

theorem pvCanonical_pitchSample {s : State} (h : pvCanonical s.pv) (ci co k : Nat) :
    pvCanonical (pitchSample ci co k s).pv := by
  have hfeed : pvCanonical (feedSample ci k s).pv := by
    obtain ⟨⟨h1, h2, h3, h4, h5⟩, h6⟩ := h
    exact ⟨⟨h1, h2, Memory.wf_write _ _ _ h3, h4, h5⟩, h6⟩
  have hmute : ∀ b : State, pvCanonical b.pv → pvCanonical (countMute b).pv := fun b hb => by
    unfold countMute
    split
    · exact hb
    · exact hb
  have hadv : ∀ b : State, pvCanonical b.pv → pvCanonical (advanceFifo b).pv := fun b hb => by
    unfold advanceFifo
    split
    · exact pvCanonical_vocoderFrame (s := { b with pv := { b.pv with cnt := BitVec.ofNat 32 b.cfg.pvL } }) hb
    · exact hb
  exact hadv _ (hmute _ hfeed)

/-- No command leaves a vocoder memory out of form. -/
theorem pvCanonical_effect (i : Instr) {s : State} (h : pvCanonical s.pv) : pvCanonical (effect i s).pv := by
  cases i with
  | init => exact pvCanonical_reset s.cfg
  | fftbrev => exact pvCanonical_iter h fun k _ hb => pvCanonical_bitRevSwap hb k
  | bfly xa xb xm inv => exact pvCanonical_butterfly h _ _ _ _
  | fft inv => exact pvCanonical_fftRun h _
  | pvwin => exact pvCanonical_windowFrame h
  | pvana => exact pvCanonical_analyseFrame h
  | pvshift => exact pvCanonical_shiftFrame h
  | pvsyn => exact pvCanonical_synthFrame h
  | pvola => exact pvCanonical_overlapFrame h
  | pshblk ci co n => exact pvCanonical_iter h fun k _ hb => pvCanonical_pitchSample hb ci co k
  | _ =>
    rw [(effect_touchesOnly _ s).field State.pv fun _ _ => rfl]
    exact h

/-! ### What a vocoder frame changes (R188) -/

/-- Nothing but the vocoder's memories and FLAGS changes: neither of its counters does. -/
def FrameOnly (s t : State) : Prop :=
  t = { s with pv := { t.pv with cnt := s.pv.cnt, mute := s.pv.mute }, flags := t.flags }

theorem FrameOnly.trans {s t u : State} (h : FrameOnly s t) (g : FrameOnly t u) : FrameOnly s u := by
  rw [FrameOnly] at h g ⊢
  calc u = { t with pv := { u.pv with cnt := t.pv.cnt, mute := t.pv.mute }, flags := u.flags } := g
    _ = { s with pv := { u.pv with cnt := s.pv.cnt, mute := s.pv.mute }, flags := u.flags } := by rw [h]

theorem FrameOnly.of_touches {i : Instr} {s t : State} (h : TouchesOnly i s t)
    (hi : ∀ e s, FrameOnly s (graft i e s)) : FrameOnly s t := by
  have hg := hi t s
  rwa [show graft i t s = t from h.symm] at hg

theorem vocoderFrame_frameOnly (s : State) : FrameOnly s (vocoderFrame s) := by
  unfold vocoderFrame
  exact (((((FrameOnly.of_touches (windowFrame_touchesOnly s) fun _ _ => rfl).trans
    (.of_touches (fftRun_touchesOnly false _) fun _ _ => rfl)).trans
    (.of_touches (analyseFrame_touchesOnly _) fun _ _ => rfl)).trans
    (.of_touches (shiftFrame_touchesOnly _) fun _ _ => rfl)).trans
    (.of_touches (synthFrame_touchesOnly _) fun _ _ => rfl)).trans
    (.trans (.of_touches (fftRun_touchesOnly true _) fun _ _ => rfl)
      (.of_touches (overlapFrame_touchesOnly _) fun _ _ => rfl))

/-- A field that a frame does not change. -/
theorem FrameOnly.field {β : Type} {s t : State} (h : FrameOnly s t) (g : State → β)
    (hg : ∀ (p : PvState) (f : BitVec 8),
      g { s with pv := { p with cnt := s.pv.cnt, mute := s.pv.mute }, flags := f } = g s) : g t = g s := by
  rw [h]
  exact hg t.pv t.flags

theorem advanceFifo_ybuf (s : State) : (advanceFifo s).ybuf = s.ybuf := by
  unfold advanceFifo
  split
  · exact (vocoderFrame_frameOnly { s with pv := { s.pv with cnt := BitVec.ofNat 32 s.cfg.pvL } }).field State.ybuf
      fun _ _ => rfl
  · rfl

theorem countMute_ybuf (s : State) : (countMute s).ybuf = s.ybuf := by
  unfold countMute
  split <;> rfl

/-! ### DM: which lines a command writes -/

/-- The lines that the command writes. -/
def feedsLine (i : Instr) (s : State) (d : Nat) : Prop :=
  match i with
  | .rdwr line _ _ => d = line
  | .rdrtw _ line _ _ _ => d = line
  | .ap _ a _ _ => d = s.parU (pApLine a)
  | .fdnstep _ _ _ => ∃ c, c < 4 ∧ (d = s.parU (pFLine c) ∨ d = s.parU (pApLine (s.parU (pFAp c))))
  | _ => False

theorem dm_fdnLane (c : Nat) (o w : Word) (q : State) : (fdnLane c o w q).2.dm =
    q.dm.write (q.ringIndex (q.parU (pApLine (q.parU (pFAp c)))) o) (sat32 (laneFeed c o w q)) := by
  rw [fdnLane_eq]
  rfl

theorem dm_fdnClose (o : Word) (m : Lanes) (q : State) : (fdnClose o m q).dm =
    (((q.dm.write (q.ringIndex (q.parU (pFLine 0)) o) m.l0).write (q.ringIndex (q.parU (pFLine 1)) o) m.l1).write
      (q.ringIndex (q.parU (pFLine 2)) o) m.l2).write (q.ringIndex (q.parU (pFLine 3)) o) m.l3 := by
  cases q
  rfl

theorem setLanes_dm (s : State) (d : Nat) (l : Lanes) : (s.setLanes d l).dm = s.dm := by
  simp only [State.setLanes, State.setV_dm]

/-- What every write to a word of the command's lines keeps, the command keeps. -/
theorem dm_effect {Q : Memory 32 → Prop} {i : Instr} (hi : i ≠ .devupd) {s : State} (h : Q s.dm)
    (hw : ∀ m d o w, feedsLine i s d → Q m → Q (m.write (s.ringIndex d o) w)) : Q (effect i s).dm := by
  cases i with
  | devupd => exact absurd rfl hi
  | rdwr line x vs => exact hw _ line _ _ rfl h
  | rdrtw d line x q vs => exact hw _ line _ _ rfl h
  | ap d a x vs => exact hw _ (s.parU (pApLine a)) (s.getX x) _ rfl h
  | fdnstep d xo vs =>
    have hlane : ∀ o x n, n ≤ 4 → Q (laneState o x s n).dm := fun o x n hn => by
      induction n with
      | zero => exact h
      | succ n ih =>
        rw [laneState_succ, dm_fdnLane, parU_laneState, parU_laneState, (laneState_reads o x s n).2]
        exact hw _ _ _ _ ⟨n, by omega, .inr rfl⟩ (ih (by omega))
    rw [effect, fdnEffect_eq, fdnResult, setLanes_dm, State.noteSat_dm, dm_fdnClose]
    simp only [parU_laneState, (laneState_reads _ _ s 4).2]
    exact hw _ _ _ _ ⟨3, by omega, .inl rfl⟩ (hw _ _ _ _ ⟨2, by omega, .inl rfl⟩
      (hw _ _ _ _ ⟨1, by omega, .inl rfl⟩ (hw _ _ _ _ ⟨0, by omega, .inl rfl⟩ (hlane _ _ 4 (by omega)))))
  | _ =>
    rw [(effect_touchesOnly _ s).field State.dm fun _ _ => rfl]
    exact h

theorem dm_deviceUpdate (s : State) :
    s.deviceUpdate.dm = if s.lengthChanged then s.dm.zeroFill s.newTotal else s.dm := by
  unfold State.deviceUpdate
  split <;> rfl

/-! ### YBUF and the RMS window -/

theorem ybuf_iter {n : Nat} {f : Nat → State → State} {s : State} (h : s.ybuf.wf = true)
    (hf : ∀ k b, b.ybuf.wf = true → (f k b).ybuf.wf = true) : (iter n f s).ybuf.wf = true :=
  iter_inv (fun _ b => b.ybuf.wf = true) n f s h fun k b _ => hf k b

theorem ybuf_accumY {s : State} (h : s.ybuf.wf = true) (c i : Nat) (v : Int) : (s.accumY c i v).ybuf.wf = true :=
  Memory.wf_write _ _ _ h

theorem ybuf_chain (i : Nat) (s : State) : (chain i s).2.ybuf = s.ybuf := by
  have hlink : (linkStep i s).2.ybuf = s.ybuf := (linkStep_touchesOnly i s).field State.ybuf fun _ _ => rfl
  have hrms : ∀ p (q : State), (rmsStep p q).2.ybuf = q.ybuf := fun _ _ => rfl
  have hdet : (detectStep i s).2.ybuf = s.ybuf := by
    unfold detectStep
    split
    · rw [hrms, hlink]
    · exact hlink
  rw [chain_eq]
  exact hdet

/-- No command leaves YBUF out of form. -/
theorem ybuf_effect (i : Instr) {s : State} (h : s.ybuf.wf = true) : (effect i s).ybuf.wf = true := by
  cases i with
  | acy ch x vs => exact ybuf_accumY h _ _ _
  | mixo x vs =>
    refine ybuf_iter h fun c b hb => ?_
    rw [mixChannel_eq]
    split
    · exact ybuf_accumY hb _ _ _
    · exact hb
  | bqblk f ci co n =>
    refine ybuf_iter h fun k b hb => ?_
    rw [bqBlockSample_eq]
    exact ybuf_accumY (s := (bq2Step f (blockInput ci b k) b).2) hb _ _ _
  | pshblk ci co n =>
    refine ybuf_iter h fun k b hb => ?_
    unfold pitchSample
    dsimp only
    rw [advanceFifo_ybuf]
    refine ybuf_accumY ?_ _ _ _
    rw [countMute_ybuf]
    exact hb
  | cmpblk n =>
    refine ybuf_iter h fun k b hb => ?_
    rw [compressSample_eq]
    refine ybuf_iter (by rw [ybuf_chain]; exact hb) fun c q hq => ?_
    unfold compressChannel
    exact ybuf_accumY hq _ _ _
  | _ =>
    rw [(effect_touchesOnly _ s).field State.ybuf fun _ _ => rfl]
    exact h

theorem win_rmsStep {s : State} (h : s.env.win.wf = true) (p : Int) : (rmsStep p s).2.env.win.wf = true :=
  Memory.wf_write _ _ _ h

theorem env_linkStep (i : Nat) (s : State) : (linkStep i s).2.env = s.env :=
  (linkStep_touchesOnly i s).field State.env fun _ _ => rfl

theorem win_chain {s : State} (h : s.env.win.wf = true) (i : Nat) : (chain i s).2.env.win.wf = true := by
  have hlink : (linkStep i s).2.env.win.wf = true := by rw [env_linkStep]; exact h
  have hdet : (detectStep i s).2.env.win.wf = true := by
    unfold detectStep
    split
    · exact win_rmsStep hlink _
    · exact hlink
  rw [chain_eq]
  exact hdet

/-- The channels of one sample leave the compressor as the chain left it. -/
theorem env_compressSample (i : Nat) (s : State) : (compressSample i s).env = (chain i s).2.env := by
  rw [compressSample_eq]
  exact (TouchesOnly.iter (i := .mixo 0 0) fun c b => compressChannel_touchesOnly i _ c b).field State.env
    fun _ _ => rfl

/-- No command leaves the RMS window out of form. -/
theorem win_effect (i : Instr) {s : State} (h : s.env.win.wf = true) : (effect i s).env.win.wf = true := by
  cases i with
  | init => rfl
  | envrms d vs => exact win_rmsStep h _
  | cmpblk n =>
    refine iter_inv (fun _ b => b.env.win.wf = true) n _ s h fun k b _ hb => ?_
    rw [env_compressSample]
    exact win_chain hb k
  | _ =>
    rw [(effect_touchesOnly _ s).field (fun q => q.env.win) fun _ _ => rfl]
    exact h

/-! ### The invariant -/

theorem memoriesCanonical_resetOf (c : Config) (n : Nat) : memoriesCanonical (State.resetOf c n) :=
  (memoriesCanonical_iff _).mpr ⟨rfl, rfl, rfl, rfl, pvCanonical_reset c⟩

theorem wf_of_memoryEdited {m m' : Memory 32} (h : memoryEdited m m') (hm : m.wf = true) : m'.wf = true := by
  rcases h with rfl | ⟨j, w, rfl⟩
  · exact hm
  · exact Memory.wf_write _ _ _ hm

/-- Settles O18. -/
theorem stepsKeepMemoriesCanonical : Obligations.StepsKeepMemoriesCanonical := by
  intro s t hs h
  refine invariant_of_effects (fun s u _ he hc => ?_) (fun i s _ _ hc => ?_)
    (fun c n _ => memoriesCanonical_resetOf c n) hs h
  · obtain ⟨hdm, hx, hy, hwin, hpv⟩ := (memoriesCanonical_iff s).mp hc
    exact (memoriesCanonical_iff u).mpr ⟨by rw [he.dm]; exact hdm, wf_of_memoryEdited he.xbuf hx,
      wf_of_memoryEdited he.ybuf hy, by rw [he.env]; exact hwin, by rw [he.pv]; exact hpv⟩
  · obtain ⟨hdm, hx, hy, hwin, hpv⟩ := (memoriesCanonical_iff s).mp hc
    have hdm' : (effect i s).dm.wf = true := by
      by_cases hi : i = .devupd
      · subst hi
        rw [effect, dm_deviceUpdate]
        split
        · exact Memory.wf_zeroFill _ _ hdm
        · exact hdm
      · exact dm_effect (Q := fun m => m.wf = true) hi hdm fun m _ _ _ _ hm => Memory.wf_write _ _ _ hm
    have hx' : (effect i s).xbuf = s.xbuf := by
      obtain ⟨-, -, -, -, -, -, -, -, -, hx⟩ := (effect_touchesOnly i s).unwritten
      exact hx
    exact (memoriesCanonical_iff _).mpr ⟨hdm', by rw [hx']; exact hx, ybuf_effect i hy, win_effect i hwin,
      pvCanonical_effect i hpv⟩

end Sys2Proof.Proofs
end

section
/-! # The delay lines and the parameters stay in form, and DM outside the lines is left alone
(10_state.md R35 to R39, 41_ring_delay.md R144) -/

namespace Sys2Proof.Proofs

open Sys2Proof.Machine Sys2Proof.Safety

-- Proofs one after the other: each thread of the compiler counts against the check's memory limit.
set_option Elab.async false

/-! ### The delay lines -/

/-- The invariant of the lines speaks of DEVOK, the bases, the lengths and the arena's size alone. -/
theorem linesPacked_congr {s t : State} (hd : t.devok = s.devok) (hb : t.dlbase = s.dlbase) (hl : t.dllen = s.dllen)
    (hc : t.cfg = s.cfg) (h : LinesPacked s) : LinesPacked t := by
  have hlen : t.dlLen = s.dlLen := by funext d; rw [State.dlLen, hl, State.dlLen]
  have hbase : t.dlBase = s.dlBase := by funext d; rw [State.dlBase, hb, State.dlBase]
  have hoff : lineOffset t = lineOffset s := by funext d; rw [lineOffset, hlen, lineOffset]
  exact ⟨by rw [hlen]; exact h.length, by rw [hd, hlen]; exact h.allocated, by rw [hbase, hoff]; exact h.base,
    by rw [hoff, hc]; exact h.fits⟩

theorem lineOffset_congr {s t : State} (hl : t.dllen = s.dllen) : lineOffset t = lineOffset s := by
  funext d
  simp only [lineOffset, State.dlLen, hl]

/-- With every length 0 the lines are packed and need no arena. -/
theorem lineOffset_zero {s : State} (h : ∀ d, s.dlLen d = 0) (n : Nat) : lineOffset s n = 0 := by
  induction n with
  | zero => rfl
  | succ n ih => rw [lineOffset_succ, ih, h]; rfl

theorem linesPacked_empty {s : State} (hlen : ∀ d, s.dlLen d = 0) (hbase : ∀ d, s.dlBase d = 0)
    (hdev : s.devok = false) : LinesPacked s where
  length d _ := .inl (by rw [hlen]; rfl)
  allocated h := absurd h (by simp [hdev])
  base d _ := by rw [hbase, lineOffset_zero hlen]; rfl
  fits := by rw [lineOffset_zero hlen]; exact Nat.zero_le _

/-- DEVOK may become 1 once no length is 0. -/
theorem linesPacked_devok {s : State} (h : LinesPacked s) (hne : ∀ d, d < 32 → (s.dlLen d).toNat ≠ 0) :
    LinesPacked { s with devok := true } := ⟨h.length, fun _ => hne, h.base, h.fits⟩

theorem arenaCleared_devok {s : State} (h : arenaCleared s) : arenaCleared { s with devok := true } := h

theorem dllen_deviceUpdate (s : State) :
    s.deviceUpdate.dllen = if s.lengthChanged then s.reallocate.dllen else s.dllen := by
  unfold State.deviceUpdate
  split <;> rfl

/-- When no length changes, every line already has its length. -/
theorem dlLen_of_unchanged {s : State} (h : ¬ s.lengthChanged = true) {d : Nat} (hd : d < 32) :
    (s.dlLen d).toNat = s.newLen d := by
  by_contra hne
  exact h (by
    simp only [State.lengthChanged, List.any_eq_true, List.mem_range, bne_iff_ne, ne_eq]
    exact ⟨d, hd, fun he => hne he.symm⟩)

section Reallocate

variable {s : State} (hfit : s.allocFits = true)

include hfit

theorem toNat_dlLen_reallocate {d : Nat} (hd : d < 32) : (s.reallocate.dlLen d).toNat = s.newLen d := by
  have := newLen_le (((allocFits_iff s).mp hfit).1 d hd)
  rw [dlLen_reallocate s hd, BitVec.toNat_ofNat, Nat.mod_eq_of_lt (by omega)]

theorem lineOffset_reallocate {d : Nat} (hd : d ≤ 32) : lineOffset s.reallocate d = sumUpTo d s.newLen :=
  sumUpTo_congr _ _ _ fun e he => toNat_dlLen_reallocate hfit (by omega)

theorem toNat_dlBase_reallocate (hok : s.cfg.ok = true) {d : Nat} (hd : d < 32) :
    (s.reallocate.dlBase d).toNat = sumUpTo d s.newLen := by
  obtain ⟨-, -, ⟨-, hdm⟩, -⟩ := cfg_ok hok
  have htotal := ((allocFits_iff s).mp hfit).2
  have hle : sumUpTo d s.newLen ≤ s.newTotal := sumUpTo_mono _ (Nat.le_of_lt hd)
  rw [dlBase_reallocate s hd, BitVec.toNat_ofNat, Nat.mod_eq_of_lt (by omega)]

/-- A new length is a power of two of at most 2^31 words (R122). -/
theorem newLen_pow2 {d : Nat} (hd : d < 32) : ∃ k, k ≤ 31 ∧ s.newLen d = 2 ^ k := by
  obtain ⟨⟨k, hk⟩, -⟩ := nextPow2_leastPow2 (max 1 (need s d))
  have hle : s.newLen d ≤ 2 ^ 31 := newLen_le (((allocFits_iff s).mp hfit).1 d hd)
  have hk' : s.newLen d = 2 ^ k := hk
  exact ⟨k, (Nat.pow_le_pow_iff_right (by omega)).mp (hk' ▸ hle), hk'⟩

theorem newLen_ne_zero {d : Nat} (hd : d < 32) : s.newLen d ≠ 0 := by
  obtain ⟨k, -, he⟩ := newLen_pow2 hfit hd
  rw [he]
  exact (Nat.two_pow_pos k).ne'

theorem linesPacked_reallocate (hok : s.cfg.ok = true) : LinesPacked s.reallocate where
  length d hd := by
    obtain ⟨k, hk, he⟩ := newLen_pow2 hfit hd
    exact .inr ⟨k, hk, by rw [toNat_dlLen_reallocate hfit hd, he]⟩
  allocated _ d hd := by
    rw [toNat_dlLen_reallocate hfit hd]
    exact newLen_ne_zero hfit hd
  base d hd := by rw [toNat_dlBase_reallocate hfit hok hd, lineOffset_reallocate hfit (Nat.le_of_lt hd)]
  fits := by
    rw [lineOffset_reallocate hfit (Nat.le_refl 32)]
    exact ((allocFits_iff s).mp hfit).2

theorem arenaCleared_reallocate : arenaCleared s.reallocate := by
  have hz : s.reallocate.dm.zeroed = max s.dm.zeroed s.newTotal := rfl
  rw [arenaCleared, lineOffset_reallocate hfit (Nat.le_refl 32), hz]
  exact le_max_right _ _

/-- A device update leaves the lines packed and their words cleared (R122). -/
theorem lines_deviceUpdate (hok : s.cfg.ok = true) (h : LinesPacked s) (hc : arenaCleared s) :
    LinesPacked s.deviceUpdate ∧ arenaCleared s.deviceUpdate := by
  unfold State.deviceUpdate
  by_cases hch : s.lengthChanged = true
  · rw [if_pos hch]
    refine ⟨linesPacked_devok (linesPacked_reallocate hfit hok) fun d hd => ?_,
      arenaCleared_devok (arenaCleared_reallocate hfit)⟩
    rw [toNat_dlLen_reallocate hfit hd]
    exact newLen_ne_zero hfit hd
  · rw [if_neg hch]
    refine ⟨linesPacked_devok h fun d hd => ?_, arenaCleared_devok hc⟩
    rw [dlLen_of_unchanged hch hd]
    exact newLen_ne_zero hfit hd

end Reallocate

/-- The bound below which DM reads as cleared is moved by DEVUPD alone. -/
theorem zeroed_effect {i : Instr} (hi : i ≠ .devupd) (s : State) : (effect i s).dm.zeroed = s.dm.zeroed :=
  dm_effect (Q := fun m => m.zeroed = s.dm.zeroed) hi rfl fun _ _ _ _ _ hm => (Memory.write_zeroed _ _ _).trans hm

theorem cfg_effect (i : Instr) (s : State) : (effect i s).cfg = s.cfg := by
  obtain ⟨-, -, -, -, -, -, h, -⟩ := (effect_touchesOnly i s).unwritten
  exact h

theorem epoch_effect (i : Instr) (s : State) : (effect i s).epoch = s.epoch := by
  obtain ⟨-, -, -, -, -, -, -, h, -⟩ := (effect_touchesOnly i s).unwritten
  exact h

/-- A command other than INIT and DEVUPD leaves the lines' registers. -/
theorem lineRegs_effect {i : Instr} (hinit : i ≠ .init) (hdev : i ≠ .devupd) (s : State) :
    (effect i s).dlbase = s.dlbase ∧ (effect i s).dllen = s.dllen ∧ (effect i s).devok = s.devok := by
  have hf := effect_touchesOnly i s
  obtain ⟨-, -, -, hg, -⟩ := graft_fields i (effect i s) s
  rw [show graft i (effect i s) s = effect i s from hf.symm] at hg
  exact hg hinit hdev

theorem lines_resetOf (c : Config) (n : Nat) :
    LinesPacked (State.resetOf c n) ∧ arenaCleared (State.resetOf c n) := by
  have hlen : ∀ d, (State.resetOf c n).dlLen d = 0 := getD_replicate 32
  refine ⟨linesPacked_empty hlen (getD_replicate 32) rfl, ?_⟩
  rw [arenaCleared, lineOffset_zero hlen]
  exact Nat.zero_le _

/-- Settles O19. -/
theorem stepsKeepTheLinesPackedAndCleared : Obligations.StepsKeepTheLinesPackedAndCleared := by
  intro s t hp hc h
  refine invariant_of_effects (P := fun s => LinesPacked s ∧ arenaCleared s) (fun s u _ he hs => ?_)
    (fun i s hok hfit hs => ?_) (fun c n _ => lines_resetOf c n) ⟨hp, hc⟩ h
  · refine ⟨linesPacked_congr he.devok he.dlbase he.dllen he.cfg hs.1, ?_⟩
    rw [arenaCleared, lineOffset_congr he.dllen, he.dm]
    exact hs.2
  · by_cases hd : i = .devupd
    · subst hd
      exact lines_deviceUpdate (hfit rfl) hok hs.1 hs.2
    by_cases hi : i = .init
    · subst hi
      have hlen : ∀ d, (effect .init s).dlLen d = 0 := getD_replicate 32
      exact ⟨linesPacked_empty hlen (getD_replicate 32) rfl, by
        rw [arenaCleared, lineOffset_zero hlen]; exact Nat.zero_le _⟩
    · obtain ⟨hbase, hlen, hdev⟩ := lineRegs_effect hi hd s
      refine ⟨linesPacked_congr hdev hbase hlen (cfg_effect i s) hs.1, ?_⟩
      rw [arenaCleared, lineOffset_congr hlen, zeroed_effect hd]
      exact hs.2

/-! ### DM outside the lines -/

/-- With legal parameters every line that a well-formed command writes is one of the 32. -/
theorem feedsLine_lt {i : Instr} {s : State} (hwf : i.wellFormed = true) (ho : operandsExist i s)
    (hb : bankLegal s.cfg s.pa) {d : Nat} (h : feedsLine i s d) : d < 32 := by
  cases i with
  | rdwr line x vs =>
    simp [Instr.wellFormed, fitsN5] at hwf
    have hd : d = line := h
    omega
  | rdrtw e line x q vs =>
    simp [Instr.wellFormed, fitsN5] at hwf
    have hd : d = line := h
    omega
  | ap e a x vs =>
    have hd : d = s.parU (pApLine a) := h
    rw [hd]
    exact allPassLine_lt hb ho
  | fdnstep e x vs =>
    obtain ⟨c, hc, rfl | rfl⟩ := h
    · exact fdnLine_lt hb hc
    · exact laneAllPass_lt hb hc
  | _ => exact h.elim

theorem touchesLine_of_feedsLine {i : Instr} {s : State} {d : Nat} (h : feedsLine i s d) : touchesLine i := by
  cases i with
  | rdwr line x vs => trivial
  | rdrtw e line x q vs => trivial
  | ap e a x vs => trivial
  | fdnstep e x vs => trivial
  | _ => exact h.elim

/-- Settles O25: every word that a line command writes is below the top of the lines. -/
theorem commandsLeaveDmOutsideTheLinesAlone : Obligations.CommandsLeaveDmOutsideTheLinesAlone := by
  intro i s t hwf hp hb h
  rcases exec_next_cases h with ⟨e, info, rfl⟩ | ⟨ho, hl, hfit, rfl⟩
  · exact ⟨fun _ _ _ => rfl, fun _ _ _ => rfl⟩
  have hep := epoch_effect i s
  refine ⟨fun hi j hj => ?_, fun hi j hj => ?_⟩
  · have hQ : ∀ free, (effect i s).dm.read free j = s.dm.read free j :=
      dm_effect (Q := fun m => ∀ free, m.read free j = s.dm.read free j) hi (fun _ => rfl) fun m d o w hd hm free => by
        have hd32 := feedsLine_lt hwf ho hb hd
        have hlt := (ringIndex_mem hp (hl (touchesLine_of_feedsLine hd)) hd32 o).2
        have htop : lineOffset s (d + 1) ≤ lineOffset s 32 := sumUpTo_mono _ hd32
        rw [Memory.read_write, if_neg (by omega), hm]
    rw [complete_dmAt, State.dmAt, hQ, hep, State.dmAt]
  · subst hi
    have hdm : ∀ free, (effect .devupd s).dm.read free j = s.dm.read free j := fun free => by
      rw [effect, dm_deviceUpdate]
      split
      · next hch =>
        have hoff : lineOffset (effect .devupd s).complete 32 = lineOffset s.reallocate 32 := by
          refine congrFun (lineOffset_congr ?_) 32
          rw [State.complete_dllen, effect, dllen_deviceUpdate, if_pos hch]
        rw [hoff, lineOffset_reallocate (hfit rfl) (Nat.le_refl 32)] at hj
        have htop : s.newTotal ≤ j := hj
        rw [Memory.read_zeroFill, if_neg (Nat.not_lt.mpr htop)]
      · rfl
    rw [complete_dmAt, State.dmAt, hdm, hep, State.dmAt]

end Sys2Proof.Proofs
end

section
/-! # The parameters, the vocoder's counters and the RMS sum stay in range, and reset starts them there
(10_state.md R37 to R46, R51) -/

namespace Sys2Proof.Proofs

open Sys2Proof.Machine Sys2Proof.Safety

-- Proofs one after the other: each thread of the compiler counts against the check's memory limit.
set_option Elab.async false

/-! ### Parameters (R37 to R39) -/

/-- The reset value of every row of R37 is in its range. -/
theorem reset_legal {c : Config} (hok : c.ok = true) {p : Nat} {sp : ParamSpec} (h : paramSpec c p = some sp) :
    sp.legal (BitVec.ofInt 32 sp.reset) = true := by
  obtain ⟨-, ⟨hch, -⟩, -, ⟨-, -, hN⟩, ⟨-, hos, hosN⟩, -⟩ := cfg_ok hok
  have hone : (⟨.u, 1, c.nchMax, 1⟩ : ParamSpec).legal (BitVec.ofInt 32 1) = true :=
    (legal_iff _ _).mpr ⟨Int.le_refl 1, Int.ofNat_le.mpr hch⟩
  have hmem := mem_r37_of_paramSpec c h
  simp only [r37, List.mem_append, List.mem_flatMap, List.mem_range, List.mem_map, List.mem_filter, decide_eq_true_eq,
    List.mem_cons, List.not_mem_nil, or_false, Prod.mk.injEq] at hmem
  rcases hmem with (((((⟨f, -, h⟩ | ⟨a, -, h⟩) | h) | ⟨k, -, h⟩) | h) | h) | ⟨k, -, -, rfl⟩
  · rcases h with ⟨-, rfl⟩ | ⟨-, rfl⟩ | ⟨-, rfl⟩ | ⟨-, rfl⟩ | ⟨-, rfl⟩ <;> rfl
  · rcases h with ⟨-, rfl⟩ | ⟨-, rfl⟩ | ⟨-, rfl⟩ <;> rfl
  · rcases h with ⟨-, rfl⟩ | ⟨-, rfl⟩ | ⟨-, rfl⟩ <;> rfl
  · rcases h with ⟨-, rfl⟩ | ⟨-, rfl⟩ | ⟨-, rfl⟩ | ⟨-, rfl⟩ <;> rfl
  · rcases h with ⟨-, rfl⟩ | ⟨-, rfl⟩ | ⟨-, rfl⟩ | ⟨-, rfl⟩ | ⟨-, rfl⟩ | ⟨-, rfl⟩ | ⟨-, rfl⟩ | ⟨-, rfl⟩ | ⟨-, rfl⟩ |
      ⟨-, rfl⟩ | ⟨-, rfl⟩ | ⟨-, rfl⟩
    case inr.inr.inr.inr.inr.inr.inr.inr.inr.inr.inr => exact hone
    all_goals rfl
  · rcases h with ⟨-, rfl⟩ | ⟨-, rfl⟩ | ⟨-, rfl⟩ | ⟨-, rfl⟩
    · rfl
    · have hnum : 0 ≤ (16 * 16777216 + 3 * (c.pvOsamp : Int)) := by omega
      have hlo := Int.ediv_nonneg hnum (show 0 ≤ 6 * (c.pvOsamp : Int) by omega)
      have hhi := Int.ediv_le_self (6 * (c.pvOsamp : Int)) hnum
      have hv : (BitVec.ofInt 32 ((16 * 16777216 + 3 * (c.pvOsamp : Int)) / (6 * c.pvOsamp))).toInt = _ :=
        toInt_ofInt_word (by omega) (by omega)
      have hmax : (16 * 16777216 + 3 * (c.pvOsamp : Int)) ≤ 2147483647 := by omega
      exact (legal_iff _ _).mpr ⟨hlo.trans_eq hv.symm, hv.trans_le (hhi.trans hmax)⟩
    · exact hone
    · rfl
  · rfl

theorem bankLegal_reset {c : Config} (hok : c.ok = true) : bankLegal c (bankReset c) :=
  ⟨fun _ _ h => ⟨_, bankReset_known h, reset_legal hok h⟩, _, bankReset_known (p := pCKnee) rfl, by decide⟩

/-- A legal word at a known index keeps a bank legal. -/
theorem bankLegal_edited {c : Config} {bank bank' : Vector Word 256} (he : shadowEdited c bank bank')
    (h : bankLegal c bank) : bankLegal c bank' := by
  rcases he with rfl | ⟨p, sp, w, hp, hw, hk, rfl⟩
  · exact h
  have hset : ∀ q, (bank.setIfInBounds p w)[q]? = if q = p then some w else bank[q]? := fun q => by
    rw [Vector.getElem?_setIfInBounds]
    by_cases hq : q = p
    · rw [if_pos hq, if_pos hq.symm, if_pos (paramSpec_lt hp)]
    · rw [if_neg hq, if_neg (Ne.symm hq)]
  refine ⟨fun q sq hq => ?_, ?_⟩
  · by_cases hqp : q = p
    · subst hqp
      rw [hp] at hq
      cases hq
      exact ⟨w, by rw [hset, if_pos rfl], hw⟩
    · obtain ⟨v, hv, hl⟩ := h.1 q sq hq
      exact ⟨v, by rw [hset, if_neg hqp, hv], hl⟩
  · by_cases hpk : pCKnee = p
    · exact ⟨w, by rw [hset, if_pos hpk], hk hpk.symm⟩
    · obtain ⟨v, hv, hl⟩ := h.2
      exact ⟨v, by rw [hset, if_neg hpk, hv], hl⟩

/-- Settles O20. -/
theorem stepsKeepTheParametersLegal : Obligations.StepsKeepTheParametersLegal := by
  intro s t hs h
  refine invariant_of_effects (fun s u _ he hl => ?_) (fun i s hok _ hl => ?_)
    (fun c n hok => ⟨bankLegal_reset hok, bankLegal_reset hok⟩) hs h
  · rw [paramsLegal, he.cfg, he.pa]
    exact ⟨bankLegal_edited he.ps hl.1, hl.2⟩
  · by_cases hinit : i = .init
    · subst hinit
      exact ⟨bankLegal_reset hok, bankLegal_reset hok⟩
    by_cases hcommit : i = .commit
    · subst hcommit
      exact ⟨hl.1, hl.1⟩
    · have hf := effect_touchesOnly i s
      obtain ⟨-, hps, hpa, -⟩ := graft_fields i (effect i s) s
      rw [show graft i (effect i s) s = effect i s from hf.symm] at hps hpa
      rw [paramsLegal, cfg_effect, (hps hinit).1, hpa hinit hcommit]
      exact hl

/-! ### The vocoder's counters (R43, R188) -/

theorem advanceFifo_mute (s : State) : (advanceFifo s).pv.mute = s.pv.mute := by
  unfold advanceFifo
  split
  · exact (vocoderFrame_frameOnly { s with pv := { s.pv with cnt := BitVec.ofNat 32 s.cfg.pvL } }).field
      (fun q => q.pv.mute) fun _ _ => rfl
  · rfl

theorem advanceFifo_cnt (s : State) : (advanceFifo s).pv.cnt =
    if s.pv.cnt.toNat + 1 = s.cfg.pvN then BitVec.ofNat 32 s.cfg.pvL else s.pv.cnt + 1 := by
  unfold advanceFifo
  split
  · exact (vocoderFrame_frameOnly { s with pv := { s.pv with cnt := BitVec.ofNat 32 s.cfg.pvL } }).field
      (fun q => q.pv.cnt) fun _ _ => rfl
  · rfl

theorem countMute_eq (s : State) :
    countMute s = { s with pv := { s.pv with mute := BitVec.ofNat 32 (s.pv.mute.toNat - 1) } } := by
  have hlt := s.pv.mute.isLt
  unfold countMute
  split
  · next h =>
    have he : s.pv.mute - 1 = BitVec.ofNat 32 (s.pv.mute.toNat - 1) := by bv_omega
    rw [he]
  · next h =>
    have he : s.pv.mute = BitVec.ofNat 32 (s.pv.mute.toNat - 1) := by bv_omega
    rw [← he]

/-- Each sample moves the two counters (R188). -/
theorem pitchSample_counters (ci co k : Nat) (s : State) :
    (pitchSample ci co k s).pv.mute = BitVec.ofNat 32 (s.pv.mute.toNat - 1) ∧
    (pitchSample ci co k s).pv.cnt =
      if s.pv.cnt.toNat + 1 = s.cfg.pvN then BitVec.ofNat 32 s.cfg.pvL else s.pv.cnt + 1 := by
  unfold pitchSample
  dsimp only
  rw [advanceFifo_mute, advanceFifo_cnt, countMute_eq]
  exact ⟨rfl, rfl⟩

/-- The sizes of the FIFOs: `0 < HOP`, and L is below PV_N. -/
theorem pvL_lt {c : Config} (hok : c.ok = true) :
    0 < c.hop ∧ c.pvL = c.pvN - c.hop ∧ c.pvL < c.pvN ∧ c.pvN ≤ 2 ^ 15 := by
  obtain ⟨-, -, -, ⟨-, hlo, hhi⟩, ⟨-, hos, hosN⟩, -⟩ := cfg_ok hok
  have hpos : 0 < c.hop := Nat.div_pos (by omega) (by omega)
  refine ⟨hpos, rfl, ?_, hhi⟩
  rw [Config.pvL]
  omega

theorem fifoInRange_reset {s : State} (hok : s.cfg.ok = true) (h : s.pv = PvState.reset s.cfg) : fifoInRange s := by
  obtain ⟨-, -, hL, hN⟩ := pvL_lt hok
  have hcnt : s.pv.cnt.toNat = s.cfg.pvL := by
    rw [h]
    exact Nat.mod_eq_of_lt (by omega)
  have hmute : s.pv.mute.toNat = s.cfg.pvN := by
    rw [h]
    exact Nat.mod_eq_of_lt (by rw [Config.fifoLatency]; omega)
  rw [fifoInRange, hcnt, hmute]
  exact ⟨Nat.le_refl _, hL, Nat.le_refl _⟩

theorem fifoInRange_congr {s t : State} (hc : t.cfg = s.cfg) (hcnt : t.pv.cnt = s.pv.cnt) (hm : t.pv.mute = s.pv.mute)
    (h : fifoInRange s) : fifoInRange t := by
  rw [fifoInRange, hc, hcnt, hm]
  exact h

theorem fifoInRange_pitchSample {s : State} (hok : s.cfg.ok = true) (h : fifoInRange s) (ci co k : Nat) :
    fifoInRange (pitchSample ci co k s) := by
  obtain ⟨-, -, hL, hN⟩ := pvL_lt hok
  obtain ⟨hlo, hhi, hm⟩ := h
  obtain ⟨hmute, hcnt⟩ := pitchSample_counters ci co k s
  have hcfg : (pitchSample ci co k s).cfg = s.cfg := (pitchSample_touchesOnly ci co k s).field State.cfg fun _ _ => rfl
  have hmlt := s.pv.mute.isLt
  have hm' : (BitVec.ofNat 32 (s.pv.mute.toNat - 1)).toNat = s.pv.mute.toNat - 1 := Nat.mod_eq_of_lt (by omega)
  rw [fifoInRange, hcfg, hmute, hcnt, hm']
  split
  · have hc : (BitVec.ofNat 32 s.cfg.pvL).toNat = s.cfg.pvL := Nat.mod_eq_of_lt (by omega)
    omega
  · have hc : (s.pv.cnt + 1).toNat = s.pv.cnt.toNat + 1 := by
      have hlt : s.pv.cnt.toNat < 2 ^ 15 := by omega
      bv_omega
    omega

/-- Settles O21. -/
theorem stepsKeepTheVocoderCountersInRange : Obligations.StepsKeepTheVocoderCountersInRange := by
  intro s t hs h
  refine invariant_of_effects (fun s u _ he hf => ?_) (fun i s hok _ hf => ?_)
    (fun c n hok => fifoInRange_reset hok rfl) hs h
  · exact fifoInRange_congr he.cfg (by rw [he.pv]) (by rw [he.pv]) hf
  · cases i with
    | init => exact fifoInRange_reset hok rfl
    | pshblk ci co n =>
      have hloop : (iter n (pitchSample ci co) s).cfg.ok = true ∧ fifoInRange (iter n (pitchSample ci co) s) :=
        iter_inv (fun _ b => b.cfg.ok = true ∧ fifoInRange b) n _ s ⟨hok, hf⟩ fun k b _ ⟨hb, hfb⟩ =>
          ⟨by rw [(pitchSample_touchesOnly ci co k b).field State.cfg fun _ _ => rfl]; exact hb,
            fifoInRange_pitchSample hb hfb ci co k⟩
      exact hloop.2
    | _ =>
      exact fifoInRange_congr (cfg_effect _ s) ((effect_touchesOnly _ s).field (fun q => q.pv.cnt) fun _ _ => rfl)
        ((effect_touchesOnly _ s).field (fun q => q.pv.mute) fun _ _ => rfl) hf

/-! ### The RMS window (R45, R46, R202) -/

/-- Replacing one term of a sum. -/
theorem sumUpTo_update (f g : Nat → Nat) (pos n : Nat) (hg : ∀ j, j ≠ pos → g j = f j) (hpos : pos < n) :
    sumUpTo n g + f pos = sumUpTo n f + g pos := by
  induction n with
  | zero => omega
  | succ n ih =>
    rw [sumUpTo_succ, sumUpTo_succ]
    by_cases h : pos = n
    · subst h
      rw [sumUpTo_congr pos g f fun j hj => hg j (by omega)]
      omega
    · have := ih (by omega)
      rw [hg n (Ne.symm h)]
      omega

theorem sumUpTo_le (f : Nat → Nat) (b n : Nat) (h : ∀ j, j < n → f j ≤ b) : sumUpTo n f ≤ n * b := by
  induction n with
  | zero => exact Nat.zero_le _
  | succ n ih =>
    have := ih fun j hj => h j (by omega)
    have := h n (by omega)
    rw [sumUpTo_succ, Nat.succ_mul]
    omega

/-- The squared sample of R202 before it is narrowed. -/
def rmsSquare (p : Int) : Int := rnd 24 (p * p)

theorem rmsSquare_nonneg (p : Int) : 0 ≤ rmsSquare p := by
  have h : 0 ≤ p * p := mul_self_nonneg p
  rw [rmsSquare, rnd24_eq]
  omega

/-- A narrowed square is an unsigned word below 2^31. -/
theorem toNat_sat32_rmsSquare (p : Int) :
    (sat32 (rmsSquare p)).toNat < 2 ^ 31 ∧ (sat32 (rmsSquare p)).toInt = (sat32 (rmsSquare p)).toNat := by
  have h := rmsSquare_nonneg p
  have hlt := (sat32 (rmsSquare p)).isLt
  have he : (sat32 (rmsSquare p)).toInt = min 2147483647 (rmsSquare p) := by
    rw [toInt_sat32, clamp32_eq]
    omega
  rw [BitVec.toInt_eq_toNat_cond] at he ⊢
  split at he <;> split <;> omega

section Rms

variable (p : Int) (s : State)

theorem rmsStep_env : (rmsStep p s).2.env = { s.env with
    sum := BitVec.ofInt 48 ((s.env.sum.toNat : Int) + (sat32 (rmsSquare p)).toInt -
      (s.env.win.read 0 s.env.pos.toNat).toInt)
    win := s.env.win.write s.env.pos.toNat (sat32 (rmsSquare p))
    pos := BitVec.ofNat 32 ((s.env.pos.toNat + 1) % s.cfg.rmsWin) } := rfl

theorem rmsStep_cfg : (rmsStep p s).2.cfg = s.cfg := rfl

theorem win_rmsStep_read (j : Nat) : (rmsStep p s).2.env.win.read 0 j =
    if j = s.env.pos.toNat then sat32 (rmsSquare p) else s.env.win.read 0 j := by
  rw [rmsStep_env]
  exact Memory.read_write _ _ _ _ _

variable {s} (hok : s.cfg.ok = true) (h : rmsExact s)

include hok

theorem pos_rmsStep : (rmsStep p s).2.env.pos.toNat = (s.env.pos.toNat + 1) % s.cfg.rmsWin := by
  obtain ⟨-, -, -, -, -, -, hlo, hhi⟩ := cfg_ok hok
  have hlt := Nat.mod_lt (s.env.pos.toNat + 1) (show s.cfg.rmsWin > 0 by omega)
  rw [rmsStep_env]
  exact Nat.mod_eq_of_lt (by omega)

include h

/-- The sum of the window after the step: the new square for the oldest. -/
theorem sum_rmsStep : (rmsStep p s).2.env.sum.toNat + (s.env.win.read 0 s.env.pos.toNat).toNat =
      s.env.sum.toNat + (sat32 (rmsSquare p)).toNat ∧
    (rmsStep p s).2.env.sum.toNat = sumUpTo s.cfg.rmsWin fun j => ((rmsStep p s).2.env.win.read 0 j).toNat := by
  obtain ⟨hpos, hent, hsum⟩ := h
  obtain ⟨-, -, -, -, -, -, hlo, hhi⟩ := cfg_ok hok
  obtain ⟨hsq, hsqi⟩ := toNat_sat32_rmsSquare p
  have hupd := sumUpTo_update (fun j => (s.env.win.read 0 j).toNat)
    (fun j => ((rmsStep p s).2.env.win.read 0 j).toNat) s.env.pos.toNat s.cfg.rmsWin
    (fun j hj => by rw [win_rmsStep_read, if_neg hj]) hpos
  have hold := hent _ hpos
  have hmem : ∀ j, j < s.cfg.rmsWin → ((rmsStep p s).2.env.win.read 0 j).toNat ≤ 2 ^ 31 := fun j hj => by
    rw [win_rmsStep_read]
    split
    · omega
    · have := hent j hj
      omega
  have hle := sumUpTo_le _ _ _ hmem
  have hbound : s.cfg.rmsWin * 2 ^ 31 ≤ 4096 * 2 ^ 31 := Nat.mul_le_mul_right _ hhi
  rw [win_rmsStep_read, if_pos rfl, ← hsum] at hupd
  have holdi : (s.env.win.read 0 s.env.pos.toNat).toInt = (s.env.win.read 0 s.env.pos.toNat).toNat := by
    rw [BitVec.toInt_eq_toNat_cond, if_pos (by omega)]
  have hnew : (rmsStep p s).2.env.sum.toNat = sumUpTo s.cfg.rmsWin fun j =>
      ((rmsStep p s).2.env.win.read 0 j).toNat := by
    have he : (rmsStep p s).2.env.sum = BitVec.ofInt 48 ((s.env.sum.toNat : Int) + (sat32 (rmsSquare p)).toInt -
      (s.env.win.read 0 s.env.pos.toNat).toInt) := by rw [rmsStep_env]
    rw [he, hsqi, holdi, BitVec.toNat_ofInt]
    omega
  exact ⟨by omega, hnew⟩

theorem rmsExact_rmsStep : rmsExact (rmsStep p s).2 := by
  obtain ⟨-, -, -, -, -, -, hlo, hhi⟩ := cfg_ok hok
  obtain ⟨-, hent, -⟩ := id h
  refine ⟨?_, fun j hj => ?_, (sum_rmsStep p hok h).2⟩
  · rw [pos_rmsStep p hok, rmsStep_cfg]
    exact Nat.mod_lt _ (by omega)
  · rw [win_rmsStep_read]
    split
    · exact (toNat_sat32_rmsSquare p).1
    · exact hent j hj

end Rms

theorem rmsExact_congr {s t : State} (hc : t.cfg = s.cfg) (hp : t.env.pos = s.env.pos) (hw : t.env.win = s.env.win)
    (hs : t.env.sum = s.env.sum) (h : rmsExact s) : rmsExact t := by
  rw [rmsExact, hc, hp, hw, hs]
  exact h

theorem rmsExact_resetOf {s : State} (hok : s.cfg.ok = true) (h : s.env = EnvState.reset s.cfg) : rmsExact s := by
  obtain ⟨-, -, -, -, -, -, hlo, -⟩ := cfg_ok hok
  have hread : ∀ j, s.env.win.read 0 j = 0 := fun j => by
    rw [h]
    exact Memory.read_zeros _ j
  have hzero : ∀ n, sumUpTo n (fun _ => (0 : Word).toNat) = 0 := fun n => by
    have := sumUpTo_le (fun _ => (0 : Word).toNat) 0 n fun _ _ => Nat.le_refl _
    omega
  refine ⟨?_, fun j _ => ?_, ?_⟩
  · rw [h]
    exact hlo
  · rw [hread]
    decide
  · simp only [hread, hzero]
    rw [h]
    rfl

/-- The chain of R207 keeps the RMS sum exact. -/
theorem rmsExact_chain {s : State} (hok : s.cfg.ok = true) (h : rmsExact s) (i : Nat) : rmsExact (chain i s).2 := by
  have hcfg : (linkStep i s).2.cfg = s.cfg := (linkStep_touchesOnly i s).field State.cfg fun _ _ => rfl
  have henv := env_linkStep i s
  have hlink : rmsExact (linkStep i s).2 := rmsExact_congr hcfg (by rw [henv]) (by rw [henv]) (by rw [henv]) h
  have hdet : rmsExact (detectStep i s).2 := by
    unfold detectStep
    split
    · exact rmsExact_rmsStep _ (by rw [hcfg]; exact hok) hlink
    · exact hlink
  rw [chain_eq]
  generalize detectStep i s = d at hdet
  exact rmsExact_congr (s := d.2) rfl rfl rfl rfl hdet

/-- Settles O22. -/
theorem stepsKeepTheRmsSumExact : Obligations.StepsKeepTheRmsSumExact := by
  intro s t hs h
  refine invariant_of_effects (fun s u _ he hx => ?_) (fun i s hok _ hx => ?_)
    (fun c n hok => rmsExact_resetOf hok rfl) hs h
  · exact rmsExact_congr he.cfg (by rw [he.env]) (by rw [he.env]) (by rw [he.env]) hx
  · cases i with
    | init => exact rmsExact_resetOf hok rfl
    | envrms d vs =>
      exact rmsExact_congr (t := effect (.envrms d vs) s) (s := (rmsStep (s.getV vs).toInt s).2) rfl rfl rfl rfl
        (rmsExact_rmsStep _ hok hx)
    | cmpblk n =>
      have hloop : (iter n compressSample s).cfg.ok = true ∧ rmsExact (iter n compressSample s) :=
        iter_inv (fun _ b => b.cfg.ok = true ∧ rmsExact b) n _ s ⟨hok, hx⟩ fun k b _ ⟨hb, hxb⟩ => by
          have hcfg : (compressSample k b).cfg = b.cfg :=
            (compressSample_touchesOnly k b).field State.cfg fun _ _ => rfl
          have hchain : (chain k b).2.cfg = b.cfg := (chain_touchesOnly k b).field State.cfg fun _ _ => rfl
          have henv := env_compressSample k b
          exact ⟨by rw [hcfg]; exact hb, rmsExact_congr (hcfg.trans hchain.symm) (by rw [henv]) (by rw [henv])
            (by rw [henv]) (rmsExact_chain hb hxb k)⟩
      exact hloop.2
    | _ =>
      exact rmsExact_congr (cfg_effect _ s) ((effect_touchesOnly _ s).field (fun q => q.env.pos) fun _ _ => rfl)
        ((effect_touchesOnly _ s).field (fun q => q.env.win) fun _ _ => rfl)
        ((effect_touchesOnly _ s).field (fun q => q.env.sum) fun _ _ => rfl) hx

/-- Settles O23. -/
theorem resetMeetsEveryInvariant : Obligations.ResetMeetsEveryInvariant := fun c n hok =>
  ⟨memoriesCanonical_resetOf c n, (lines_resetOf c n).1, (lines_resetOf c n).2,
    ⟨bankLegal_reset hok, bankLegal_reset hok⟩, fifoInRange_reset hok rfl, rmsExact_resetOf hok rfl⟩

end Sys2Proof.Proofs
end

section
/-! # The compressor's scalar commands (45_envelope.md R201 to R205) -/

namespace Sys2Proof.Proofs

open Sys2Proof.Machine Sys2Proof.Safety

-- Proofs one after the other: each thread of the compiler counts against the check's memory limit.
set_option Elab.async false

/-! ### LINK (R201) -/

section Link

variable (i : Nat) (s : State)

/-- The largest of the linked levels. -/
def linkPeak : Int := iter (s.parU pCNch) (fun c m => max m (s.linkLevel i c).toInt) 0

/-- The sum of the linked levels. -/
def linkTotal : Int := iter (s.parU pCNch) (fun c t => t + (s.linkLevel i c).toInt) 0

/-- The level that LINK gives. -/
def linkWord : Word := if s.linkMax then BitVec.ofInt 32 (linkPeak i s) else sat32 (linkTotal i s)

/-- Does LINK clip? -/
def linkNote : Bool :=
  (List.range (s.parU pCNch)).any (s.linkClips i) || (!s.linkMax && clips (linkTotal i s))

theorem linkStep_eq : linkStep i s = (linkWord i s, s.noteSat (linkNote i s)) := by
  unfold linkStep linkWord linkNote
  dsimp only
  by_cases h : s.linkMax = true
  · simp only [h, if_true, Bool.not_true, Bool.false_and, Bool.or_false]
    rfl
  · simp only [h, Bool.false_eq_true, if_false, Bool.not_false, Bool.true_and]
    rfl

theorem linkLevel_nonneg (c : Nat) : 0 ≤ (s.linkLevel i c).toInt := by
  rw [State.linkLevel, toInt_sat32_absInt]
  exact le_min (abs_nonneg _) (by omega)

/-- The peak is one of the levels and none is above it. -/
theorem iter_max_mem {f : Nat → Int} (hf : ∀ c, 0 ≤ f c) (n : Nat) :
    (1 ≤ n → ∃ c, c < n ∧ iter n (fun c m => max m (f c)) 0 = f c) ∧
    (∀ c, c < n → f c ≤ iter n (fun c m => max m (f c)) 0) ∧ 0 ≤ iter n (fun c m => max m (f c)) 0 := by
  induction n with
  | zero => exact ⟨fun h => by omega, fun c hc => by omega, Int.le_refl 0⟩
  | succ n ih =>
    obtain ⟨hex, hle, h0⟩ := ih
    rw [iter_succ]
    refine ⟨fun _ => ?_, fun c hc => ?_, le_trans h0 (le_max_left _ _)⟩
    · by_cases h : iter n (fun c m => max m (f c)) 0 ≤ f n
      · exact ⟨n, by omega, max_eq_right h⟩
      · have hn : 1 ≤ n := by
          by_contra hn
          have : n = 0 := by omega
          subst this
          exact h (hf 0)
        obtain ⟨c, hc, he⟩ := hex hn
        exact ⟨c, by omega, by rw [max_eq_left (by omega), he]⟩
    · rcases Nat.lt_succ_iff_lt_or_eq.mp hc with h | rfl
      · exact le_trans (hle c h) (le_max_left _ _)
      · exact le_max_right _ _

/-- With at least one channel, the level of maximum linking is the peak. -/
theorem toInt_linkWord_max (h : s.linkMax = true) (hn : 1 ≤ s.parU pCNch) :
    (∃ c, c < s.parU pCNch ∧ (linkWord i s).toInt = (s.linkLevel i c).toInt) ∧
    ∀ c, c < s.parU pCNch → (s.linkLevel i c).toInt ≤ (linkWord i s).toInt := by
  obtain ⟨hex, hle, -⟩ := iter_max_mem (linkLevel_nonneg i s) (s.parU pCNch)
  obtain ⟨c, hc, he⟩ := hex hn
  have hword : linkWord i s = s.linkLevel i c := by
    rw [linkWord, if_pos h, linkPeak, he, BitVec.ofInt_toInt]
  refine ⟨⟨c, hc, by rw [hword]⟩, fun d hd => ?_⟩
  rw [hword, ← he]
  exact hle d hd

end Link

/-- Settles O55. -/
theorem envlinkLinksTheChannels : Obligations.EnvlinkLinksTheChannels := by
  intro d x s hwf ho pre p n total
  have hd : d < 16 := by simp [Instr.wellFormed, fitsA] at hwf; omega
  let i := (s.getX x).toNat
  have hp : ∀ c, (s.linkLevel i c).toInt = p c := fun c => by
    rw [State.linkLevel, absInt_eq_abs]
    rfl
  have htotal : linkTotal i s = total := by
    simp only [linkTotal, hp]
    rfl
  have hclips : ∀ c, s.linkClips i c = (clips (pre c) || clips |(sat32 (pre c)).toInt|) := fun c => by
    rw [State.linkClips, absInt_eq_abs]
    rfl
  have hmax : s.linkMax = true ↔ s.parU 0xCA % 2 = 1 := by rw [State.linkMax, beq_iff_eq, pCMode]
  have hmin : ¬ s.linkMax = true ↔ s.parU 0xCA % 2 = 0 := by rw [hmax]; omega
  have heff : effect (.envlink d x) s = (s.noteSat (linkNote i s)).setV d (linkWord i s) := by
    rw [effect, State.putLevel, linkStep_eq]
  have hv : ∀ r, (effect (.envlink d x) s).complete.getV r = if r = d then linkWord i s else s.getV r := fun r => by
    rw [complete_getV, heff, State.getV_setV _ d r _ hd, noteSat_getV]
  have hnote : Noted (linkNote i s) s (effect (.envlink d x) s) := by
    rw [heff]
    rfl
  refine ⟨_, exec_of_operands ho rfl (by simp), (effect_touchesOnly _ s).complete, fun r hr => ?_, fun h1 hn => ?_,
    fun h0 => ?_, hnote.errorBits, ?_⟩
  · rw [hv, if_neg hr]
  · obtain ⟨⟨c, hc, he⟩, hle⟩ := toInt_linkWord_max i s (hmax.mpr h1) hn
    rw [hv, if_pos rfl]
    exact ⟨⟨c, hc, he.trans (hp c)⟩, fun e hec => hp e ▸ hle e hec⟩
  · rw [hv, if_pos rfl, linkWord, if_neg (hmin.mpr h0), htotal]
  · refine (Bool.eq_iff_iff.mp hnote.sat).trans ?_
    have hsum : (!s.linkMax && clips (linkTotal i s)) = true ↔ s.parU 0xCA % 2 = 0 ∧ clips total = true := by
      rw [Bool.and_eq_true, Bool.not_eq_true', ← Bool.not_eq_true, hmin, htotal]
    rw [Bool.or_eq_true, linkNote, Bool.or_eq_true, hsum, any_range_iff]
    simp only [hclips]
    exact Iff.rfl

/-! ### RMS (R202) -/

section RmsMean

variable (p : Int) {s : State} (hok : s.cfg.ok = true) (h : rmsExact s)

include hok h

/-- The mean is the floor of the sum over the window's length, and fits a word. -/
theorem rmsStep_fst : (rmsStep p s).1 = sat32 ((rmsStep p s).2.env.sum.toNat / s.cfg.rmsWin : Nat) ∧
    clips ((rmsStep p s).2.env.sum.toNat / s.cfg.rmsWin : Nat) = false := by
  obtain ⟨-, -, -, -, -, hp2, hlo, -⟩ := cfg_ok hok
  have hmean : (rmsStep p s).1 = sat32 ((rmsStep p s).2.env.sum.toNat / 2 ^ Nat.log2 s.cfg.rmsWin : Nat) := rfl
  refine ⟨by rw [hmean, ← hp2], (clips_eq_false_iff _).mpr ⟨le_trans (by decide) (Int.natCast_nonneg _), ?_⟩⟩
  have hle : (rmsStep p s).2.env.sum.toNat ≤ s.cfg.rmsWin * 2147483647 := by
    rw [(sum_rmsStep p hok h).2]
    refine sumUpTo_le _ _ _ fun j hj => ?_
    have := (rmsExact_rmsStep p hok h).2.1 j hj
    omega
  have hdiv := Nat.div_le_div_right (c := s.cfg.rmsWin) hle
  rw [Nat.mul_div_cancel_left _ (by omega)] at hdiv
  exact Int.ofNat_le.mpr hdiv

theorem rmsStep_noted : Noted (clips (rmsSquare p)) s (rmsStep p s).2 := by
  obtain ⟨-, -, -, -, -, hp2, -⟩ := cfg_ok hok
  have hraw : Noted (clips (rmsSquare p) ||
      clips ((rmsStep p s).2.env.sum.toNat / 2 ^ Nat.log2 s.cfg.rmsWin : Nat)) s (rmsStep p s).2 := rfl
  refine hraw.congr ?_
  rw [← hp2, (rmsStep_fst p hok h).2, Bool.or_false]

end RmsMean

/-- Settles O56. -/
theorem envrmsKeepsTheRunningMeanSquare : Obligations.EnvrmsKeepsTheRunningMeanSquare := by
  intro d vs s hwf hok hx square sq pos
  have hd : d < 16 := by simp [Instr.wellFormed, fitsA] at hwf; omega
  let p := (s.getV vs).toInt
  have hexec : exec (.envrms d vs) s = .next (effect (.envrms d vs) s).complete :=
    exec_of_operands trivial rfl (by simp)
  have henv : (effect (.envrms d vs) s).complete.env = (rmsStep p s).2.env := rfl
  have hv : ∀ r, (effect (.envrms d vs) s).complete.getV r = if r = d then (rmsStep p s).1 else s.getV r := fun r =>
    State.getV_setV (rmsStep p s).2 d r _ hd
  have hnote : Noted (clips square) s (effect (.envrms d vs) s).complete := rmsStep_noted p hok hx
  refine ⟨_, hexec, (effect_touchesOnly _ s).complete, fun j => ?_, ?_, ?_, fun r => ?_, hnote.errorBits, hnote.sat⟩
  · rw [henv]
    exact win_rmsStep_read p s j
  · rw [henv]
    exact (sum_rmsStep p hok hx).1
  · rw [henv]
    exact pos_rmsStep p hok
  · rw [hv, henv, (rmsStep_fst p hok hx).1]

/-! ### FOLLOW (R203) -/

theorem log10qAbove_le (n : Nat) : log10qAbove n ≤ 2147483647 := by
  induction n with
  | zero => exact Int.le_of_lt (by decide)
  | succ n ih => exact max_le ih (word_toInt_mem _).2

theorem log10q_le (v : Int) : log10q v ≤ 2147483647 := by
  unfold log10q
  split
  · exact log10qAbove_le _
  · exact le_trans (log10qBelow_anti (Nat.zero_le _)) (by decide)

/-- The target of FOLLOW is a word. -/
theorem followTarget_mem (v : Int) (s : State) :
    -83886080 ≤ followTarget v s ∧ followTarget v s ≤ 2147483647 := by
  have hlog := log10q_le v
  unfold followTarget
  split
  · exact ⟨Int.le_refl _, by decide⟩
  · refine ⟨le_max_left _ _, max_le (by decide) ?_⟩
    split
    · rw [rnd1_eq]
      omega
    · exact hlog

theorem followRate_mem (dl : Int) : 0 ≤ followRate dl ∧ followRate dl ≤ 16777216 := by
  have h : 0 ≤ absInt dl := by rw [absInt_eq_abs]; exact abs_nonneg dl
  rw [followRate, one]
  omega

/-- A step interpolated between two words that are not negative is not negative. -/
theorem followSlew_nonneg {slow fast rate : Int} (hs : 0 ≤ slow) (hf : 0 ≤ fast) (h0 : 0 ≤ rate)
    (h1 : rate ≤ 16777216) : 0 ≤ followSlew slow fast rate := by
  have hprod : -(16777216 * slow) ≤ rate * (fast - slow) := by nlinarith
  rw [followSlew, rnd24_eq]
  omega

theorem stepWords_nonneg {s : State} (hb : bankLegal s.cfg s.pa) :
    0 ≤ s.parQ pCAtkS ∧ 0 ≤ s.parQ pCAtkF ∧ 0 ≤ s.parQ pCRelS ∧ 0 ≤ s.parQ pCRelF :=
  ⟨(par_legal hb (p := pCAtkS) rfl).1, (par_legal hb (p := pCAtkF) rfl).1, (par_legal hb (p := pCRelS) rfl).1,
    (par_legal hb (p := pCRelF) rfl).1⟩

/-- The new envelope lies between the last one and the target, and is reached by the interpolated step. -/
theorem followNext_cases (t last : Int) (s : State) :
    (last < t → followNext t last s =
      min t (last + followSlew (s.parQ pCAtkS) (s.parQ pCAtkF) (followRate (t - last)))) ∧
    (t < last → followNext t last s =
      max t (last - followSlew (s.parQ pCRelS) (s.parQ pCRelF) (followRate (t - last)))) ∧
    (last = t → followNext t last s = last) := by
  refine ⟨fun h => if_pos (by omega), fun h => ?_, fun h => ?_⟩
  · exact (if_neg (by omega)).trans (if_pos (by omega))
  · exact (if_neg (by omega)).trans (if_neg (by omega))

theorem followNext_mem {s : State} (hb : bankLegal s.cfg s.pa) (t last : Int) :
    min last t ≤ followNext t last s ∧ followNext t last s ≤ max last t := by
  obtain ⟨has, haf, hrs, hrf⟩ := stepWords_nonneg hb
  obtain ⟨hr0, hr1⟩ := followRate_mem (t - last)
  have ha := followSlew_nonneg has haf hr0 hr1
  have hr := followSlew_nonneg hrs hrf hr0 hr1
  obtain ⟨hup, hdown, hsame⟩ := followNext_cases t last s
  rcases lt_trichotomy last t with h | h | h
  · rw [hup h]
    omega
  · rw [hsame h]
    omega
  · rw [hdown h]
    omega

/-- Settles O57. -/
theorem envfolFollowsWithoutOvershoot : Obligations.EnvfolFollowsWithoutOvershoot := by
  intro d vs s hwf hb v target last rate attack release
  have hd : d < 16 := by simp [Instr.wellFormed, fitsA] at hwf; omega
  have htarget : followTarget v s = target := by
    simp only [followTarget, State.rmsMode, beq_iff_eq]
    rfl
  have hrate : followRate (target - last) = rate := by
    rw [followRate, absInt_eq_abs]
  have hexec : exec (.envfol d vs) s = .next (effect (.envfol d vs) s).complete :=
    exec_of_operands trivial rfl (by simp)
  have hnew : (effect (.envfol d vs) s).complete.env.last = BitVec.ofInt 32 (followNext target last s) := by
    rw [← htarget]
    rfl
  have hv : ∀ r, (effect (.envfol d vs) s).complete.getV r =
      if r = d then BitVec.ofInt 32 (followNext target last s) else s.getV r := fun r => by
    rw [← htarget]
    exact State.getV_setV (followStep v s).2 d r _ hd
  have hmem := followNext_mem hb target last
  have hlast := word_toInt_mem s.env.last
  have htm := followTarget_mem v s
  rw [htarget] at htm
  have hint : (BitVec.ofInt 32 (followNext target last s)).toInt = followNext target last s :=
    toInt_ofInt_word (by omega) (by omega)
  obtain ⟨hup, hdown, hsame⟩ := followNext_cases target last s
  rw [hrate] at hup hdown
  refine ⟨_, hexec, (effect_touchesOnly _ s).complete, fun r => ?_, fun h => ?_, fun h => ?_, fun h => ?_, ?_, ?_⟩
  · rw [hnew, hv]
  · rw [hnew, hint, hup h]
    rfl
  · rw [hnew, hint, hdown h]
    rfl
  · rw [hnew, hint, hsame h]
  · rw [hnew, hint]
    exact hmem.1
  · rw [hnew, hint]
    exact hmem.2

/-! ### GAIN (R205) -/

/-- Settles O58. -/
theorem envgainComputesTheClampedGain : Obligations.EnvgainComputesTheClampedGain := by
  intro d vs s hwf env th k lower straight e
  have hd : d < 16 := by simp [Instr.wellFormed, fitsA] at hwf; omega
  have hexec : exec (.envgain d vs) s = .next (effect (.envgain d vs) s).complete :=
    exec_of_operands trivial rfl (by simp)
  have he : gainExponent env s = e := rfl
  have hgain : (effect (.envgain d vs) s).complete.env.gain =
      BitVec.ofInt 32 (exp10q (min 0 (max (-83886080) e))) := by
    rw [← he]
    rfl
  have hv : ∀ r, (effect (.envgain d vs) s).complete.getV r =
      if r = d then BitVec.ofInt 32 (exp10q (min 0 (max (-83886080) e))) else s.getV r := fun r => by
    rw [← he]
    exact State.getV_setV (gainStep env s).2 d r _ hd
  have hmem := exp10q_mem (min 0 (max (-83886080) e))
  have hint : (BitVec.ofInt 32 (exp10q (min 0 (max (-83886080) e)))).toInt = exp10q (min 0 (max (-83886080) e)) :=
    toInt_ofInt_word (by omega) (by omega)
  refine ⟨_, hexec, (effect_touchesOnly _ s).complete, fun r => ?_, ?_, ?_, ?_⟩
  · rw [hgain, hv]
  · rw [hgain, hint]
  · rw [hgain, hint]
    exact hmem.1
  · rw [hgain, hint]
    exact hmem.2

end Sys2Proof.Proofs
end

section
/-! # CMPBLK: the chain, sample by sample and channel by channel (45_envelope.md R207) -/

namespace Sys2Proof.Proofs

open Sys2Proof.Machine Sys2Proof.Safety

-- Proofs one after the other: each thread of the compiler counts against the check's memory limit.
set_option Elab.async false

/-! ### What the chain reads -/

/-- The parameters, the layout and the input block are the same in both states. -/
structure SameInputs (b q : State) : Prop where
  cfg : b.cfg = q.cfg
  epoch : b.epoch = q.epoch
  pa : b.pa = q.pa
  xbuf : b.xbuf = q.xbuf

theorem SameInputs.trans {b q r : State} (h : SameInputs b q) (g : SameInputs q r) : SameInputs b r :=
  ⟨h.cfg.trans g.cfg, h.epoch.trans g.epoch, h.pa.trans g.pa, h.xbuf.trans g.xbuf⟩

theorem SameInputs.symm {b q : State} (h : SameInputs b q) : SameInputs q b :=
  ⟨h.cfg.symm, h.epoch.symm, h.pa.symm, h.xbuf.symm⟩

/-- A command that writes neither the parameters nor XBUF keeps the inputs. -/
theorem SameInputs.of_touches {i : Instr} {s t : State} (h : TouchesOnly i s t)
    (hpa : ∀ e s, (graft i e s).pa = s.pa) : SameInputs t s := by
  obtain ⟨-, -, -, -, -, -, hcfg, hep, -, hx⟩ := h.unwritten
  exact ⟨hcfg, hep, h.field State.pa hpa, hx⟩

section Congr

variable {b q : State} (h : SameInputs b q)

include h

theorem par_congr : b.par = q.par := by
  funext p
  rw [State.par, State.par, h.pa]

theorem parU_congr : b.parU = q.parU := by
  funext p
  rw [State.parU, State.parU, par_congr h]

theorem parQ_congr : b.parQ = q.parQ := by
  funext p
  rw [State.parQ, State.parQ, par_congr h]

theorem rmsMode_congr : b.rmsMode = q.rmsMode := by rw [State.rmsMode, State.rmsMode, parU_congr h]

theorem preGained_congr : b.preGained = q.preGained := by
  funext i c
  simp only [State.preGained, State.xbufAt, State.blockIndex, parQ_congr h, h.cfg, h.epoch, h.xbuf]

theorem linkLevel_congr : b.linkLevel = q.linkLevel := by
  funext i c
  rw [State.linkLevel, State.linkLevel, preGained_congr h]

theorem linkClips_congr : b.linkClips = q.linkClips := by
  funext i c
  rw [State.linkClips, State.linkClips, preGained_congr h]

theorem linkWord_congr (i : Nat) : linkWord i b = linkWord i q := by
  simp only [linkWord, linkPeak, linkTotal, State.linkMax, parU_congr h, linkLevel_congr h]
  rfl

theorem linkNote_congr (i : Nat) : linkNote i b = linkNote i q := by
  simp only [linkNote, linkTotal, State.linkMax, parU_congr h, linkLevel_congr h, linkClips_congr h]

end Congr

/-! ### The chain as functions of its inputs -/

/-- RMS reads the compressor and the window's length alone. -/
theorem rmsStep_congr {b q : State} (he : b.env = q.env) (hc : b.cfg = q.cfg) (p : Int) :
    (rmsStep p b).1 = (rmsStep p q).1 ∧ (rmsStep p b).2.env = (rmsStep p q).2.env := by
  unfold rmsStep
  dsimp only [State.noteSat_env]
  rw [he, hc]
  exact ⟨rfl, rfl⟩

theorem followStep_congr {b q : State} (he : b.env = q.env) (h : SameInputs b q) (v : Int) :
    (followStep v b).1 = (followStep v q).1 ∧ (followStep v b).2.env = (followStep v q).2.env := by
  unfold followStep followTarget followNext
  rw [he, parQ_congr h, rmsMode_congr h]
  exact ⟨rfl, rfl⟩

theorem gainStep_congr {b q : State} (he : b.env = q.env) (h : SameInputs b q) (e : Int) :
    (gainStep e b).1 = (gainStep e q).1 ∧ (gainStep e b).2.env = (gainStep e q).2.env := by
  unfold gainStep gainExponent
  rw [he, parQ_congr h]
  exact ⟨rfl, rfl⟩

/-- Does the RMS step clip? -/
def rmsNote (p : Int) (s : State) : Bool :=
  clips (rmsSquare p) || clips ((rmsStep p s).2.env.sum.toNat / 2 ^ Nat.log2 s.cfg.rmsWin : Nat)

theorem rmsStep_notes (p : Int) (s : State) : Noted (rmsNote p s) s (rmsStep p s).2 := rfl

theorem rmsNote_congr {b q : State} (he : b.env = q.env) (hc : b.cfg = q.cfg) (p : Int) :
    rmsNote p b = rmsNote p q := by
  rw [rmsNote, rmsNote, (rmsStep_congr he hc p).2, hc]

/-- Do LINK and, in RMS mode, RMS clip? -/
def detectNote (i : Nat) (s : State) : Bool :=
  linkNote i s || (s.rmsMode && rmsNote (linkStep i s).1.toInt (linkStep i s).2)

theorem detectStep_notes (i : Nat) (s : State) : Noted (detectNote i s) s (detectStep i s).2 := by
  have hlink : Noted (linkNote i s) s (linkStep i s).2 := by
    rw [linkStep_eq]
    exact noted_noteSat _ _
  unfold detectStep detectNote
  by_cases h : s.rmsMode = true
  · rw [if_pos h, h, Bool.true_and]
    exact hlink.trans (rmsStep_notes _ _)
  · rw [if_neg h]
    simpa [h] using hlink

theorem chain_notes (i : Nat) (s : State) : Noted (detectNote i s) s (chain i s).2 := by
  unfold Noted
  rw [chain_flags]
  exact detectStep_notes i s

theorem chain_sameInputs (i : Nat) (s : State) : SameInputs (chain i s).2 s :=
  .of_touches (chain_touchesOnly i s) fun _ _ => rfl

theorem linkStep_sameInputs (i : Nat) (s : State) : SameInputs (linkStep i s).2 s :=
  .of_touches (linkStep_touchesOnly i s) fun _ _ => rfl

theorem detectStep_sameInputs (i : Nat) (s : State) : SameInputs (detectStep i s).2 s :=
  .of_touches (detectStep_touchesOnly i s) fun _ _ => rfl

theorem linked_cfg {b q : State} (h : SameInputs b q) (i : Nat) : (linkStep i b).2.cfg = (linkStep i q).2.cfg := by
  rw [(linkStep_sameInputs i b).cfg, (linkStep_sameInputs i q).cfg, h.cfg]

section ChainCongr

variable {b q : State} (he : b.env = q.env) (h : SameInputs b q)

include he h

theorem linkStep_congr (i : Nat) : (linkStep i b).1 = (linkStep i q).1 ∧ (linkStep i b).2.env = (linkStep i q).2.env :=
  ⟨by rw [linkStep_eq, linkStep_eq, linkWord_congr h], by rw [env_linkStep, env_linkStep, he]⟩

theorem detectStep_congr (i : Nat) :
    (detectStep i b).1 = (detectStep i q).1 ∧ (detectStep i b).2.env = (detectStep i q).2.env := by
  obtain ⟨hword, henv⟩ := linkStep_congr he h i
  unfold detectStep
  rw [rmsMode_congr h]
  split
  · rw [hword]
    exact rmsStep_congr henv (linked_cfg h i) _
  · exact ⟨hword, henv⟩

theorem detectNote_congr (i : Nat) : detectNote i b = detectNote i q := by
  obtain ⟨hword, henv⟩ := linkStep_congr he h i
  rw [detectNote, detectNote, linkNote_congr h, rmsMode_congr h, hword, rmsNote_congr henv (linked_cfg h i)]

/-- The chain's gain and the compressor after it depend on its inputs alone. -/
theorem chain_congr (i : Nat) : (chain i b).1 = (chain i q).1 ∧ (chain i b).2.env = (chain i q).2.env := by
  obtain ⟨hword, henv⟩ := detectStep_congr he h i
  have hin : SameInputs (detectStep i b).2 (detectStep i q).2 :=
    ((detectStep_sameInputs i b).trans h).trans (detectStep_sameInputs i q).symm
  rw [chain_eq, chain_eq, hword]
  generalize (detectStep i q).1.toInt = v
  generalize (detectStep i b).2 = b' at henv hin
  generalize (detectStep i q).2 = q' at henv hin
  obtain ⟨hf, hfenv⟩ := followStep_congr henv hin v
  rw [hf]
  exact gainStep_congr hfenv ⟨hin.cfg, hin.epoch, hin.pa, hin.xbuf⟩ _

end ChainCongr

theorem chainRun_sameInputs (s : State) (n : Nat) : SameInputs (chainRun s n) s := by
  induction n with
  | zero => exact ⟨rfl, rfl, rfl, rfl⟩
  | succ n ih => exact (chain_sameInputs n (chainRun s n)).trans ih

theorem chainRun_noted (s : State) (n : Nat) :
    Noted ((List.range n).any fun i => detectNote i (chainRun s i)) s (chainRun s n) := by
  induction n with
  | zero => exact noted_of_flags_eq rfl
  | succ n ih =>
    rw [List.range_succ, List.any_append]
    exact (ih.trans (chain_notes n (chainRun s n))).congr (by simp)

/-! ### The block -/

section Block

variable (s : State)

/-- The state after the first `n` samples of the block. -/
def compressed (n : Nat) : State := iter n compressSample s

theorem compressed_succ (n : Nat) : compressed s (n + 1) = compressSample n (compressed s n) := rfl

theorem compressSample_sameInputs (i : Nat) (q : State) : SameInputs (compressSample i q) q :=
  .of_touches (compressSample_touchesOnly i q) fun _ _ => rfl

/-- The block's outputs do not reach the chain. -/
theorem compressed_chainRun (n : Nat) :
    (compressed s n).env = (chainRun s n).env ∧ SameInputs (compressed s n) (chainRun s n) := by
  induction n with
  | zero => exact ⟨rfl, rfl, rfl, rfl, rfl⟩
  | succ n ih =>
    obtain ⟨henv, hin⟩ := ih
    refine ⟨?_, ?_⟩
    · rw [compressed_succ, env_compressSample]
      exact (chain_congr henv hin n).2
    · exact ((compressSample_sameInputs n _).trans hin).trans (chain_sameInputs n (chainRun s n)).symm

/-- The exact output of channel `c` for sample `i` (R207). -/
def channelOut (i c : Nat) : Int := rnd 24 ((sat32 (s.preGained i c)).toInt * chainGain s i)

theorem compressed_sameInputs (n : Nat) : SameInputs (compressed s n) s :=
  (compressed_chainRun s n).2.trans (chainRun_sameInputs s n)

/-- One sample of the block: the chain, then every channel at the chain's gain. -/
theorem compressed_step (n : Nat) : compressed s (n + 1) =
    iter (s.parU pCNch) (compressChannel n (chainGain s n)) (chain n (compressed s n)).2 := by
  obtain ⟨henv, hin⟩ := compressed_chainRun s n
  have hs := compressed_sameInputs s n
  rw [compressed_succ, compressSample_eq, parU_congr hs, parQ_congr hs, (chain_congr henv hin n).1, chainGain]

/-- A channel's turn on a state with the block's inputs. -/
theorem compressChannel_eq {q : State} (h : SameInputs q s) (i c : Nat) : compressChannel i (chainGain s i) c q =
    (q.accumY c i (sat32 (channelOut s i c)).toInt).noteSat (clips (s.preGained i c) || clips (channelOut s i c)) := by
  simp only [compressChannel, preGained_congr h]
  rfl

theorem channels_sameInputs {q : State} (h : SameInputs q s) (i : Nat) (gt : Int) (n : Nat) :
    SameInputs (iter n (compressChannel i gt) q) s :=
  .trans (.of_touches (i := .mixo 0 0) (.iter fun c b => compressChannel_touchesOnly i gt c b) fun _ _ => rfl) h

/-- The channels' turns add into distinct words of YBUF. -/
theorem ybufAt_channels {q : State} (h : SameInputs q s) {i : Nat} (hi : i < s.cfg.blockMax) (n : Nat) :
    (∀ c, c < n → (iter n (compressChannel i (chainGain s i)) q).ybufAt (c * s.cfg.blockMax + i) =
      sat32 ((q.ybufAt (c * s.cfg.blockMax + i)).toInt + (sat32 (channelOut s i c)).toInt)) ∧
    (∀ j, (∀ c, c < n → j ≠ c * s.cfg.blockMax + i) →
      (iter n (compressChannel i (chainGain s i)) q).ybufAt j = q.ybufAt j) := by
  refine loop_updates_all State.ybufAt (fun c => c * s.cfg.blockMax + i)
    (fun c y => sat32 (y.toInt + (sat32 (channelOut s i c)).toInt)) n _ q
    (fun c d _ _ he => (blockIndex_inj hi hi he).1) fun c _ j => ?_
  have hc := channels_sameInputs s h i (chainGain s i) c
  rw [compressChannel_eq s hc, noteSat_ybufAt, State.ybufAt_accumY, hc.cfg]

theorem channels_noted {q : State} (h : SameInputs q s) {i : Nat} (hi : i < s.cfg.blockMax) (n : Nat) :
    Noted ((List.range n).any fun c => clips (s.preGained i c) || clips (channelOut s i c) ||
      clips ((q.ybufAt (c * s.cfg.blockMax + i)).toInt + (sat32 (channelOut s i c)).toInt)) q
      (iter n (compressChannel i (chainGain s i)) q) := by
  refine Noted.iter fun c _ => ?_
  have hc := channels_sameInputs s h i (chainGain s i) c
  have hword := (ybufAt_channels s h hi c).2 (c * s.cfg.blockMax + i) fun d hd he =>
    absurd (blockIndex_inj hi hi he).1 (Nat.ne_of_gt hd)
  rw [compressChannel_eq s hc]
  refine ((accumY_noted _ c i _).trans (noted_noteSat _ _)).congr ?_
  rw [hc.cfg, hword, Bool.or_comm]

theorem ybufAt_chain (i j : Nat) (q : State) : (chain i q).2.ybufAt j = q.ybufAt j := by
  rw [State.ybufAt, ybuf_chain, (chain_sameInputs i q).epoch, State.ybufAt]

/-- What the samples below `n` leave in YBUF. -/
theorem ybufAt_compressed {n : Nat} (hn : n ≤ s.cfg.blockMax) :
    (∀ c i, c < s.parU pCNch → i < n → (compressed s n).ybufAt (c * s.cfg.blockMax + i) =
      sat32 ((s.ybufAt (c * s.cfg.blockMax + i)).toInt + (sat32 (channelOut s i c)).toInt)) ∧
    (∀ j, (∀ c i, c < s.parU pCNch → i < n → j ≠ c * s.cfg.blockMax + i) →
      (compressed s n).ybufAt j = s.ybufAt j) := by
  induction n with
  | zero => exact ⟨fun c i _ hi => absurd hi (Nat.not_lt_zero i), fun j _ => rfl⟩
  | succ n ih =>
    obtain ⟨hw, hk⟩ := ih (by omega)
    have hin : SameInputs (chain n (compressed s n)).2 s := (chain_sameInputs n _).trans (compressed_sameInputs s n)
    obtain ⟨hcw, hck⟩ := ybufAt_channels s hin (show n < s.cfg.blockMax by omega) (s.parU pCNch)
    simp only [ybufAt_chain] at hcw hck
    rw [compressed_step]
    refine ⟨fun c i hc hi => ?_, fun j hj => ?_⟩
    · by_cases hin' : i = n
      · subst hin'
        rw [hcw c hc, hk _ fun d k _ hkn he => absurd (blockIndex_inj (by omega) (by omega) he).2 (by omega)]
      · rw [hck _ fun d _ he => hin' (blockIndex_inj (by omega) (by omega) he).2, hw c i hc (by omega)]
    · rw [hck j fun c hc => hj c n hc (Nat.lt_succ_self n), hk j fun c i hc hi => hj c i hc (Nat.lt_succ_of_lt hi)]

/-- Does an output of sample `i` clip? -/
def outputNote (i : Nat) : Bool :=
  (List.range (s.parU pCNch)).any fun c => clips (s.preGained i c) || clips (channelOut s i c) ||
    clips ((s.ybufAt (c * s.cfg.blockMax + i)).toInt + (sat32 (channelOut s i c)).toInt)

theorem compressed_noted {n : Nat} (hn : n ≤ s.cfg.blockMax) :
    Noted ((List.range n).any fun i => detectNote i (chainRun s i) || outputNote s i) s (compressed s n) := by
  refine Noted.iter fun k hk => ?_
  obtain ⟨henv, hin⟩ := compressed_chainRun s k
  have hs : SameInputs (chain k (compressed s k)).2 s := (chain_sameInputs k _).trans (compressed_sameInputs s k)
  have hword : ∀ c, (compressed s k).ybufAt (c * s.cfg.blockMax + k) = s.ybufAt (c * s.cfg.blockMax + k) := fun c =>
    (ybufAt_compressed s (show k ≤ s.cfg.blockMax by omega)).2 _ fun d i _ hi he =>
      absurd (blockIndex_inj (by omega) (by omega) he).2 (by omega)
  have hstep : compressSample k (compressed s k) = _ := compressed_step s k
  change Noted _ (compressed s k) (compressSample k (compressed s k))
  rw [hstep]
  refine ((chain_notes k (compressed s k)).trans
    (channels_noted s hs (show k < s.cfg.blockMax by omega) (s.parU pCNch))).congr ?_
  rw [detectNote_congr henv hin, outputNote]
  simp only [ybufAt_chain, hword]

end Block

/-- Settles O59. -/
theorem cmpblkScalesEveryChannelByTheChainGain : Obligations.CmpblkScalesEveryChannelByTheChainGain := by
  intro n s _ ho word pre out sum
  obtain ⟨hw, hk⟩ := ybufAt_compressed s ho
  have hnote := compressed_noted s ho
  refine ⟨_, exec_of_operands ho rfl (by simp), (effect_touchesOnly (.cmpblk n) s).complete,
    (compressed_chainRun s n).1, fun c i hc hi => hw c i hc hi, hk, hnote.errorBits, ?_⟩
  have hsat : (effect (.cmpblk n) s).complete.sat = _ := hnote.sat
  rw [hsat, (chainRun_noted s n).sat, Bool.or_eq_true, Bool.or_eq_true, or_assoc, any_range_iff, any_range_iff]
  simp only [Bool.or_eq_true (detectNote _ _), and_or_left, exists_or]
  refine or_congr_right (or_congr_right ⟨?_, ?_⟩)
  · rintro ⟨i, hi, h⟩
    obtain ⟨c, hc, hnote⟩ := any_range_iff.mp h
    exact ⟨c, i, hc, hi, hnote⟩
  · rintro ⟨c, i, hc, hi, h⟩
    exact ⟨i, hi, any_range_iff.mpr ⟨c, hc, h⟩⟩

/-- A scalar compressor command carries its step's output in a tap register and leaves what the next step reads. -/
theorem exec_level {i : Instr} {s : State} {r : Word × State} (ho : operandsExist i s) (hc : checksDevice i = false)
    (hd : i ≠ .devupd) (heff : effect i s = .putLevel 0 r) (hin : SameInputs r.2 s) :
    ∃ t, exec i s = .next t ∧ t.env = r.2.env ∧ t.getV 0 = r.1 ∧ SameInputs t s := by
  refine ⟨_, exec_of_operands ho hc hd, ?_, ?_, ?_⟩
  · rw [State.complete_env, heff]
    rfl
  · rw [complete_getV, heff, State.putLevel, State.getV_setV _ 0 0 _ (by omega), if_pos rfl]
  · rw [heff]
    exact ⟨hin.cfg, hin.epoch, hin.pa, hin.xbuf⟩

theorem rmsStep_sameInputs (p : Int) (s : State) : SameInputs (rmsStep p s).2 s :=
  .of_touches (rmsStep_touchesOnly p s) fun _ _ => rfl

/-- ENVLINK, and ENVRMS in RMS mode, are the chain's detector. -/
theorem exec_detect {s : State} (hblock : 1 ≤ s.cfg.blockMax) (hx : s.getX 0 = 0) :
    ∃ a b, exec (.envlink 0 0) s = .next a ∧
      (if s.parU pCMode / 2 % 2 = 1 then exec (.envrms 0 0) a = .next b else b = a) ∧
      b.env = (detectStep 0 s).2.env ∧ b.getV 0 = (detectStep 0 s).1 ∧ SameInputs b s := by
  have hlink : effect (.envlink 0 0) s = .putLevel 0 (linkStep 0 s) := by
    rw [effect, hx]
    rfl
  have hidx : operandsExist (.envlink 0 0) s := by
    change (s.getX 0).toNat < s.cfg.blockMax
    rw [hx]
    exact hblock
  obtain ⟨a, ha, hae, hav, hain⟩ := exec_level hidx rfl (by simp) hlink (linkStep_sameInputs 0 s)
  by_cases hmode : s.rmsMode = true
  · have hm : s.parU pCMode / 2 % 2 = 1 := beq_iff_eq.mp hmode
    obtain ⟨b, hb, hbe, hbv, hbin⟩ :=
      exec_level (i := .envrms 0 0) (s := a) trivial rfl (by simp) rfl (rmsStep_sameInputs _ a)
    obtain ⟨hword, henv⟩ := rmsStep_congr hae (hain.trans (linkStep_sameInputs 0 s).symm).cfg (a.getV 0).toInt
    refine ⟨a, b, ha, ?_, ?_, ?_, hbin.trans hain⟩
    · rw [if_pos hm]
      exact hb
    · rw [hbe, henv, hav, detectStep, if_pos hmode]
    · rw [hbv, hword, hav, detectStep, if_pos hmode]
  · have hm : ¬ s.parU pCMode / 2 % 2 = 1 := fun h => hmode (beq_iff_eq.mpr h)
    refine ⟨a, a, ha, ?_, ?_, ?_, hain⟩
    · rw [if_neg hm]
    · rw [hae, detectStep, if_neg hmode]
    · rw [hav, detectStep, if_neg hmode]

theorem followStep_sameInputs (v : Int) (s : State) : SameInputs (followStep v s).2 s :=
  .of_touches (followStep_touchesOnly v s) fun _ _ => rfl

theorem gainStep_sameInputs (e : Int) (s : State) : SameInputs (gainStep e s).2 s :=
  .of_touches (gainStep_touchesOnly e s) fun _ _ => rfl

/-- Settles O60: each scalar command starts from what the chain's step before it leaves. -/
theorem cmpblkSampleIsTheScalarChain : Obligations.CmpblkSampleIsTheScalarChain := by
  intro s hblock hx
  obtain ⟨a, b, ha, hb, hbe, hbv, hbin⟩ := exec_detect hblock hx
  obtain ⟨c, hc, hce, hcv, hcin⟩ :=
    exec_level (i := .envfol 0 0) (s := b) trivial rfl (by simp) rfl (followStep_sameInputs _ b)
  obtain ⟨d, hd, hde, -, -⟩ :=
    exec_level (i := .envgain 0 0) (s := c) trivial rfl (by simp) rfl (gainStep_sameInputs _ c)
  have hdet := hbin.trans (detectStep_sameInputs 0 s).symm
  obtain ⟨hf, hfe⟩ := followStep_congr hbe hdet (b.getV 0).toInt
  have hfol := ((hcin.trans hbin).trans (detectStep_sameInputs 0 s).symm).trans
    (followStep_sameInputs (b.getV 0).toInt (detectStep 0 s).2).symm
  obtain ⟨-, hge⟩ := gainStep_congr (hce.trans hfe) hfol (c.getV 0).toInt
  have hchain : (effect (.cmpblk 1) s).env = (chain 0 s).2.env := env_compressSample 0 s
  refine ⟨a, b, c, d, _, ha, hb, hc, hd, exec_of_operands (i := .cmpblk 1) hblock rfl (by simp), ?_⟩
  rw [State.complete_env, hchain, hde, hge, hcv, hf, hbv, chain_eq]

end Sys2Proof.Proofs
end

section
/-! # The limiter law (45_envelope.md R208) -/

namespace Sys2Proof.Proofs

open Sys2Proof.Machine Sys2Proof.Safety

-- Proofs one after the other: each thread of the compiler counts against the check's memory limit.
set_option Elab.async false

/-! ### What one sample of the chain leaves -/

theorem followTarget_congr {b q : State} (h : SameInputs b q) (v : Int) : followTarget v b = followTarget v q := by
  rw [followTarget, followTarget, rmsMode_congr h]

theorem followNext_congr {b q : State} (h : SameInputs b q) (t last : Int) :
    followNext t last b = followNext t last q := by
  rw [followNext, followNext, parQ_congr h]

theorem gainExponent_congr {b q : State} (h : SameInputs b q) (env : Int) :
    gainExponent env b = gainExponent env q := by
  rw [gainExponent, gainExponent, parQ_congr h]

/-- The detector does not move the envelope. -/
theorem last_detectStep (i : Nat) (q : State) : (detectStep i q).2.env.last = q.env.last := by
  unfold detectStep
  split
  · rw [rmsStep_env, env_linkStep]
  · rw [env_linkStep]

theorem last_chain (i : Nat) (q : State) : (chain i q).2.env.last =
    BitVec.ofInt 32 (followNext (followTarget (detectStep i q).1.toInt q) q.env.last.toInt q) := by
  have hin := detectStep_sameInputs i q
  have hlast := last_detectStep i q
  rw [chain_eq, ← followTarget_congr hin, ← followNext_congr hin, ← hlast]
  rfl

/-- An envelope at its target stays there. -/
theorem last_chain_of_target {i : Nat} {q : State}
    (h : q.env.last.toInt = followTarget (detectStep i q).1.toInt q) : (chain i q).2.env.last = q.env.last := by
  rw [last_chain, (followNext_cases _ _ q).2.2 h, BitVec.ofInt_toInt]

/-- The window, its sum and its position are the detector's. -/
theorem window_chain (i : Nat) (q : State) : (chain i q).2.env.win = (detectStep i q).2.env.win := by
  rw [chain_eq]
  generalize detectStep i q = d
  rfl

/-- The gain is the exponential of the clamped exponent at the new envelope. -/
theorem chain_fst (i : Nat) (q : State) : (chain i q).1 =
    BitVec.ofInt 32 (exp10q (min 0 (max envFloor (gainExponent (chain i q).2.env.last.toInt q)))) := by
  rw [← gainExponent_congr (detectStep_sameInputs i q), chain_eq]
  generalize detectStep i q = d
  rfl

theorem rnd24_unit (x : Int) : rnd 24 (16777216 * x) = x := by
  rw [rnd24_eq]
  omega

/-! ### The bound -/

/-- With slope ONE, no knee and a settled envelope, sample `i` is scaled by `10^(th - l)`, clamped. -/
theorem chainGain_of_settled {s : State} {i : Nat} (hpost : s.parQ pCPost = 16777216)
    (hslope : s.parQ pCSlope = 16777216) (hknee : s.parQ pCKnee = 0)
    (hset : (chainRun s (i + 1)).env.last = s.env.last) (hth : s.parQ pCThresh ≤ s.env.last.toInt) :
    chainGain s i = exp10q (max envFloor (s.parQ pCThresh - s.env.last.toInt)) := by
  have hin := chainRun_sameInputs s i
  have hmem := exp10q_mem (max envFloor (s.parQ pCThresh - s.env.last.toInt))
  have hlast : (chain i (chainRun s i)).2.env.last = s.env.last := hset
  have hexp : gainExponent s.env.last.toInt (chainRun s i) = s.parQ pCThresh - s.env.last.toInt := by
    rw [gainExponent_congr hin, gainExponent, if_pos hknee, hslope, rnd24_unit]
  have hclamp : min 0 (max envFloor (s.parQ pCThresh - s.env.last.toInt)) =
      max envFloor (s.parQ pCThresh - s.env.last.toInt) := min_eq_right (max_le (by decide) (by omega))
  rw [chainGain, hpost, rnd24_unit, chain_fst, hlast, hexp, hclamp]
  exact toInt_ofInt_word (by omega) (by omega)

theorem preGained_unit {s : State} (h : s.parQ pCPre = 16777216) (i c : Nat) :
    s.preGained i c = (s.xbufAt (c * s.cfg.blockMax + i)).toInt := by
  have he : s.preGained i c = rnd 24 (s.parQ pCPre * (s.xbufAt (c * s.cfg.blockMax + i)).toInt) := rfl
  rw [he, h, rnd24_unit]

/-! ### A constant level -/

/-- Without the RMS window, a level whose target the envelope has reached leaves the envelope alone. -/
theorem settled_peak {s : State} {n : Nat} {level : Int} (hmode : s.rmsMode = false)
    (hlevel : ∀ i, i < n → (linkStep i s).1.toInt = level) (hl : s.env.last.toInt = followTarget level s) (i : Nat)
    (hi : i ≤ n) : (chainRun s i).env.last = s.env.last := by
  induction i with
  | zero => rfl
  | succ i ih =>
    have hlast := ih (by omega)
    have hin := chainRun_sameInputs s i
    have hdet : (detectStep i (chainRun s i)).1.toInt = level := by
      rw [detectStep, rmsMode_congr hin, hmode, if_neg Bool.false_ne_true, ← hlevel i (by omega), linkStep_eq,
        linkStep_eq, linkWord_congr hin]
    refine (last_chain_of_target ?_).trans hlast
    rw [hlast, hdet, followTarget_congr hin, hl]

/-- The window holds nothing but the word `sq`. -/
def windowHolds (sq : Word) (q : State) : Prop := ∀ j, j < q.cfg.rmsWin → q.env.win.read 0 j = sq

/-- In a window that holds nothing but the square of the level, RMS gives that square and leaves the window so. -/
theorem rmsStep_steady {q : State} {level : Int} (hok : q.cfg.ok = true) (hx : rmsExact q)
    (hwin : windowHolds (sat32 (rmsSquare level)) q) :
    (rmsStep level q).1 = sat32 (rmsSquare level) ∧ windowHolds (sat32 (rmsSquare level)) (rmsStep level q).2 := by
  obtain ⟨-, -, -, -, -, -, hlo, -⟩ := cfg_ok hok
  have hafter : windowHolds (sat32 (rmsSquare level)) (rmsStep level q).2 := fun j hj => by
    rw [win_rmsStep_read]
    split
    · rfl
    · exact hwin j hj
  refine ⟨?_, hafter⟩
  have hconst : ∀ n (w : Nat), sumUpTo n (fun _ => w) = w * n := fun n w => by
    induction n with
    | zero => rfl
    | succ n ih => rw [sumUpTo_succ, ih, Nat.mul_succ]
  have hsum : (rmsStep level q).2.env.sum.toNat = (sat32 (rmsSquare level)).toNat * q.cfg.rmsWin := by
    rw [(sum_rmsStep level hok hx).2, ← hconst]
    exact sumUpTo_congr _ _ _ fun j hj => by rw [hafter j hj]
  rw [(rmsStep_fst level hok hx).1, hsum, Nat.mul_div_cancel _ hlo, ← (toNat_sat32_rmsSquare level).2, sat32_toInt_word]

/-- With the RMS window full of the level's square, the envelope at that square's target stays there. -/
theorem settled_rms {s : State} {n : Nat} {level : Int} (hmode : s.rmsMode = true) (hok : s.cfg.ok = true)
    (hx : rmsExact s) (hlevel : ∀ i, i < n → (linkStep i s).1.toInt = level)
    (hwin : windowHolds (sat32 (rmsSquare level)) s)
    (hl : s.env.last.toInt = followTarget (sat32 (rmsSquare level)).toInt s) (i : Nat) (hi : i ≤ n) :
    (chainRun s i).env.last = s.env.last ∧ rmsExact (chainRun s i) ∧
      windowHolds (sat32 (rmsSquare level)) (chainRun s i) := by
  induction i with
  | zero => exact ⟨rfl, hx, hwin⟩
  | succ i ih =>
    obtain ⟨hlast, hxi, hwi⟩ := ih (by omega)
    have hin := chainRun_sameInputs s i
    have hoki : (chainRun s i).cfg.ok = true := by rw [hin.cfg]; exact hok
    have hlink := linkStep_sameInputs i (chainRun s i)
    have henv := env_linkStep i (chainRun s i)
    have hword : (linkStep i (chainRun s i)).1.toInt = level := by
      rw [← hlevel i (by omega), linkStep_eq, linkStep_eq, linkWord_congr hin]
    have hdet : detectStep i (chainRun s i) = rmsStep level (linkStep i (chainRun s i)).2 := by
      rw [detectStep, rmsMode_congr hin, if_pos hmode, hword]
    obtain ⟨hmean, hafter⟩ := rmsStep_steady (q := (linkStep i (chainRun s i)).2) (level := level)
      (by rw [hlink.cfg]; exact hoki)
      (rmsExact_congr hlink.cfg (by rw [henv]) (by rw [henv]) (by rw [henv]) hxi)
      (fun j hj => by rw [henv]; exact hwi j (by rw [← hlink.cfg]; exact hj))
    refine ⟨(last_chain_of_target ?_).trans hlast, rmsExact_chain hoki hxi i, fun j hj => ?_⟩
    · rw [hlast, hdet, hmean, followTarget_congr hin, hl]
    · have hcfg : (chain i (chainRun s i)).2.cfg = (rmsStep level (linkStep i (chainRun s i)).2).2.cfg := by
        rw [rmsStep_cfg, hlink.cfg, (chain_sameInputs i (chainRun s i)).cfg]
      change (chain i (chainRun s i)).2.env.win.read 0 j = _
      rw [window_chain, hdet]
      exact hafter j (by rw [← hcfg]; exact hj)

/-- Settles O34. -/
theorem theSettledLimiterHoldsTheThreshold : Obligations.TheSettledLimiterHoldsTheThreshold := by
  intro n s _ ho l th word
  refine ⟨fun amp tolL tolE hpre hpost hslope hknee hset hth hamp hlevel htol =>
    ⟨_, exec_of_operands ho rfl (by simp), fun c i hc hi hx hy => ?_⟩, ?_⟩
  · have hgain := chainGain_of_settled hpost hslope hknee (hset (i + 1) (by omega)) hth
    have hword : (effect (.cmpblk n) s).complete.ybufAt (word c i) =
        sat32 (rnd 24 ((s.xbufAt (word c i)).toInt * chainGain s i)) := by
      have hw := (ybufAt_compressed s ho).1 c i hc hi
      rw [hy, zero_add, sat32_toInt_word, channelOut, preGained_unit hpre, sat32_toInt_word] at hw
      exact hw
    have hbound := limiter_product _ (chainGain s i) l (max (-83886080) (th - l)) amp tolL tolE hamp hx
      (by rw [hgain]; exact (exp10q_mem _).1.le) hlevel (by rw [hgain]; exact htol)
    have hsum : (max th (l - 83886080) : Int) = l + max (-83886080) (th - l) := by omega
    rw [hword, hsum]
    push_cast at hbound ⊢
    exact hbound
  · intro level hlevel square settledAt
    have htarget : ∀ v, followTarget v s = settledAt v := fun v => by
      simp only [followTarget, State.rmsMode, beq_iff_eq]
      rfl
    refine ⟨fun hmode hl => ?_, fun hmode hok hx hwin hl i hi => ?_⟩
    · have hm : s.rmsMode = false := by
        rw [State.rmsMode, beq_eq_false_iff_ne]
        exact fun h => absurd (hmode.symm.trans h) (by decide)
      exact settled_peak hm hlevel (by rw [htarget]; exact hl)
    · exact (settled_rms (beq_iff_eq.mpr hmode) hok hx hlevel (fun j hj => BitVec.eq_of_toInt_eq (hwin j hj))
        (by rw [htarget]; exact hl) i hi).1

end Sys2Proof.Proofs
end

section
/-! # The bit reversal and the butterfly (44_phase_vocoder.md R171, R172) -/

namespace Sys2Proof.Proofs

open Sys2Proof.Machine Sys2Proof.Safety

-- Proofs one after the other: each thread of the compiler counts against the check's memory limit.
set_option Elab.async false

/-! ### The reversed index (R171) -/

theorem bitRev_lt (b i : Nat) : bitRev b i < 2 ^ b := by
  induction b generalizing i with
  | zero => exact Nat.one_pos
  | succ b ih =>
    have hlt := ih (i / 2)
    have hmod : i % 2 * 2 ^ b ≤ 1 * 2 ^ b := Nat.mul_le_mul_right _ (by omega)
    rw [bitRev, Nat.pow_succ]
    omega

/-- Bit `k` of the reversed index is the bit as far from the top. -/
theorem testBit_bitRev (b i k : Nat) (hk : k < b) : (bitRev b i).testBit k = i.testBit (b - 1 - k) := by
  induction b generalizing i with
  | zero => exact absurd hk (Nat.not_lt_zero k)
  | succ b ih =>
    rw [bitRev, Nat.mul_comm, Nat.testBit_two_pow_mul_add _ (bitRev_lt b (i / 2))]
    split
    · next h =>
      rw [ih (i / 2) h, ← Nat.testBit_succ]
      exact congrArg i.testBit (by omega)
    · next h =>
      have hkb : k = b := by omega
      subst hkb
      rw [Nat.sub_self, Nat.add_sub_cancel, Nat.sub_self]
      simp [Nat.testBit_zero]

/-- An index below `2^b` is determined by its low `b` bits. -/
theorem eq_of_low_bits {b i j : Nat} (hi : i < 2 ^ b) (hj : j < 2 ^ b) (h : ∀ k, k < b → i.testBit k = j.testBit k) :
    i = j := by
  refine Nat.eq_of_testBit_eq fun k => ?_
  by_cases hk : k < b
  · exact h k hk
  · have hle : 2 ^ b ≤ 2 ^ k := Nat.pow_le_pow_right (by omega) (by omega)
    rw [Nat.testBit_lt_two_pow (by omega), Nat.testBit_lt_two_pow (by omega)]

theorem bitRev_bitRev {b i : Nat} (hi : i < 2 ^ b) : bitRev b (bitRev b i) = i :=
  eq_of_low_bits (bitRev_lt _ _) hi fun k hk => by
    rw [testBit_bitRev _ _ _ hk, testBit_bitRev _ _ _ (by omega)]
    exact congrArg i.testBit (by omega)

/-! ### A loop that swaps every entry with its partner -/

/-- Turn `i` swaps entry `i` with its partner `r i` when the partner comes later. -/
theorem loop_swaps {α β : Type} (rd : α → Nat → β) (r : Nat → Nat) (N : Nat) (f : Nat → α → α) (s : α)
    (hlt : ∀ i, i < N → r i < N) (hrr : ∀ i, i < N → r (r i) = i)
    (hstep : ∀ i, i < N → ∀ j, rd (f i (iter i f s)) j =
      if i < r i ∧ j = r i then rd (iter i f s) i
      else if i < r i ∧ j = i then rd (iter i f s) (r i) else rd (iter i f s) j) :
    (∀ j, j < N → rd (iter N f s) j = rd s (r j)) ∧ ∀ j, N ≤ j → rd (iter N f s) j = rd s j := by
  have hinv : ∀ n, n ≤ N → (∀ j, j < N → rd (iter n f s) j = if min j (r j) < n then rd s (r j) else rd s j) ∧
      ∀ j, N ≤ j → rd (iter n f s) j = rd s j := by
    intro n
    induction n with
    | zero => exact fun _ => ⟨fun j _ => by rw [if_neg (Nat.not_lt_zero _), iter_zero], fun j _ => rfl⟩
    | succ n ih =>
      intro hn
      obtain ⟨hin, hout⟩ := ih (by omega)
      have hr := hlt n (by omega)
      have hrn := hrr n (by omega)
      refine ⟨fun j hj => ?_, fun j hj => ?_⟩
      · rw [iter_succ, hstep n (by omega), hin n (by omega), hin (r n) hr, hin j hj, hrn]
        by_cases hpartner : j = r n
        · subst hpartner
          rw [hrn]
          rcases Nat.lt_trichotomy n (r n) with h | h | h
          · rw [if_pos ⟨h, rfl⟩, if_neg (by omega), if_pos (by omega)]
          · rw [← h]
            simp
          · rw [if_neg (by omega), if_neg (by omega), if_pos (by omega), if_pos (by omega)]
        · by_cases hself : j = n
          · subst hself
            rcases Nat.lt_trichotomy j (r j) with h | h | h
            · rw [if_neg (by omega), if_pos ⟨h, rfl⟩, if_neg (by omega), if_pos (by omega)]
            · exact absurd h hpartner
            · rw [if_neg (by omega), if_neg (by omega), if_pos (by omega), if_pos (by omega)]
          · have hne : r j ≠ n := fun h => hpartner (by rw [← h, hrr j hj])
            rw [if_neg (by omega), if_neg (by omega)]
            exact if_congr (by omega) rfl rfl
      · rw [iter_succ, hstep n (by omega), if_neg (by omega), if_neg (by omega), hout j hj]
  obtain ⟨hin, hout⟩ := hinv N (Nat.le_refl N)
  exact ⟨fun j hj => by rw [hin j hj, if_pos (by omega)], hout⟩

/-! ### FFTBREV -/

theorem read_swap {w : Nat} (m : Memory w) (i j k : Nat) :
    (m.swap i j).read 0 k = if k = j then m.read 0 i else if k = i then m.read 0 j else m.read 0 k := by
  rw [Memory.swap, Memory.read_write, Memory.read_write]
  rfl

theorem bitRevSwap_reads (i : Nat) (s : State) (j : Nat) :
    ((bitRevSwap i s).pv.fr.read 0 j =
      if i < bitRev (Nat.log2 s.cfg.pvN) i ∧ j = bitRev (Nat.log2 s.cfg.pvN) i then s.pv.fr.read 0 i
      else if i < bitRev (Nat.log2 s.cfg.pvN) i ∧ j = i then s.pv.fr.read 0 (bitRev (Nat.log2 s.cfg.pvN) i)
      else s.pv.fr.read 0 j) ∧
    (bitRevSwap i s).pv.fi.read 0 j =
      if i < bitRev (Nat.log2 s.cfg.pvN) i ∧ j = bitRev (Nat.log2 s.cfg.pvN) i then s.pv.fi.read 0 i
      else if i < bitRev (Nat.log2 s.cfg.pvN) i ∧ j = i then s.pv.fi.read 0 (bitRev (Nat.log2 s.cfg.pvN) i)
      else s.pv.fi.read 0 j := by
  unfold bitRevSwap
  by_cases h : i < bitRev (Nat.log2 s.cfg.pvN) i
  · simp only [h, if_true, true_and, read_swap]
  · simp only [h, if_false, false_and, and_self]

theorem bitReversed_cfg (n : Nat) (s : State) : (iter n bitRevSwap s).cfg = s.cfg :=
  (TouchesOnly.iter (i := .fftbrev) bitRevSwap_touchesOnly).field State.cfg fun _ _ => rfl

/-- The entries after the bit reversal. -/
theorem bitReversal_reads {s : State} (hok : s.cfg.ok = true) :
    (∀ j, j < s.cfg.pvN → (bitReversal s).pv.fr.read 0 j = s.pv.fr.read 0 (bitRev (Nat.log2 s.cfg.pvN) j) ∧
      (bitReversal s).pv.fi.read 0 j = s.pv.fi.read 0 (bitRev (Nat.log2 s.cfg.pvN) j)) ∧
    ∀ j, s.cfg.pvN ≤ j → (bitReversal s).pv.fr.read 0 j = s.pv.fr.read 0 j ∧
      (bitReversal s).pv.fi.read 0 j = s.pv.fi.read 0 j := by
  obtain ⟨-, -, -, ⟨hp, -⟩, -⟩ := cfg_ok hok
  have hlt : ∀ i, i < s.cfg.pvN → bitRev (Nat.log2 s.cfg.pvN) i < s.cfg.pvN := fun i _ => by
    conv_rhs => rw [hp]
    exact bitRev_lt _ _
  have hrr : ∀ i, i < s.cfg.pvN → bitRev (Nat.log2 s.cfg.pvN) (bitRev (Nat.log2 s.cfg.pvN) i) = i := fun i hi =>
    bitRev_bitRev (by rw [← hp]; exact hi)
  obtain ⟨hr, hrout⟩ :=
    loop_swaps (fun b : State => b.pv.fr.read 0) (bitRev (Nat.log2 s.cfg.pvN)) s.cfg.pvN bitRevSwap s hlt hrr
      fun i _ j => by
      have h := (bitRevSwap_reads i (iter i bitRevSwap s) j).1
      rwa [bitReversed_cfg] at h
  obtain ⟨hi, hiout⟩ :=
    loop_swaps (fun b : State => b.pv.fi.read 0) (bitRev (Nat.log2 s.cfg.pvN)) s.cfg.pvN bitRevSwap s hlt hrr
      fun i _ j => by
      have h := (bitRevSwap_reads i (iter i bitRevSwap s) j).2
      rwa [bitReversed_cfg] at h
  exact ⟨fun j hj => ⟨hr j hj, hi j hj⟩, fun j hj => ⟨hrout j hj, hiout j hj⟩⟩

/-- Settles O43. -/
theorem fftbrevReversesTheIndexBits : Obligations.FftbrevReversesTheIndexBits := by
  intro s hok
  obtain ⟨-, -, -, ⟨hp, -⟩, -⟩ := cfg_ok hok
  obtain ⟨hin, hout⟩ := bitReversal_reads hok
  refine ⟨_, exec_of_operands (i := .fftbrev) trivial rfl (by simp), (effect_touchesOnly .fftbrev s).complete,
    fun i j hi hj hbits => ?_, hout⟩
  have hj' : j = bitRev (Nat.log2 s.cfg.pvN) i :=
    eq_of_low_bits (by rw [← hp]; exact hj) (bitRev_lt _ _) fun k hk => by rw [hbits k hk, testBit_bitRev _ _ _ hk]
  subst hj'
  exact hin i hi

/-! ### The butterfly (R172) -/

section Butterfly

variable (inv : Bool) (a b m : Nat) (s : State)

/-- `TWI[m]`, negated for the inverse. -/
def turnIm : Int := if inv then -twi s.cfg m else twi s.cfg m

/-- The real part of entry `b` turned by the twiddle. -/
def turnedRe : Int :=
  rnd 24 (twr s.cfg m * (s.pv.fr.read 0 b).toInt - turnIm inv m s * (s.pv.fi.read 0 b).toInt)

/-- The imaginary part of entry `b` turned by the twiddle. -/
def turnedIm : Int :=
  rnd 24 (twr s.cfg m * (s.pv.fi.read 0 b).toInt + turnIm inv m s * (s.pv.fr.read 0 b).toInt)

/-- The forward transform halves, the inverse does not. -/
def halved (z : Int) : Int := if inv then z else rnd 1 z

/-- The four exact results: the two parts of entry `a`, then of entry `b`. -/
def sumRe : Int := halved inv ((s.pv.fr.read 0 a).toInt + turnedRe inv b m s)

def sumIm : Int := halved inv ((s.pv.fi.read 0 a).toInt + turnedIm inv b m s)

def diffRe : Int := halved inv ((s.pv.fr.read 0 a).toInt - turnedRe inv b m s)

def diffIm : Int := halved inv ((s.pv.fi.read 0 a).toInt - turnedIm inv b m s)

/-- Does the butterfly clip? -/
def butterflyNote : Bool :=
  clips (sumRe inv a b m s) || clips (sumIm inv a b m s) || clips (diffRe inv a b m s) || clips (diffIm inv a b m s)

/-- Both entries are read before either is written. -/
theorem butterfly_eq : butterfly inv a b m s = ({ s with pv := { s.pv with
    fr := (s.pv.fr.write a (sat32 (sumRe inv a b m s))).write b (sat32 (diffRe inv a b m s))
    fi := (s.pv.fi.write a (sat32 (sumIm inv a b m s))).write b (sat32 (diffIm inv a b m s)) } } : State).noteSat
      (butterflyNote inv a b m s) := rfl

theorem butterfly_fr (k : Nat) : (butterfly inv a b m s).pv.fr.read 0 k =
    if k = b then sat32 (diffRe inv a b m s) else if k = a then sat32 (sumRe inv a b m s) else s.pv.fr.read 0 k := by
  rw [butterfly_eq, State.noteSat_pv, Memory.read_write, Memory.read_write]

theorem butterfly_fi (k : Nat) : (butterfly inv a b m s).pv.fi.read 0 k =
    if k = b then sat32 (diffIm inv a b m s) else if k = a then sat32 (sumIm inv a b m s) else s.pv.fi.read 0 k := by
  rw [butterfly_eq, State.noteSat_pv, Memory.read_write, Memory.read_write]

theorem butterfly_noted : Noted (butterflyNote inv a b m s) s (butterfly inv a b m s) := by
  rw [butterfly_eq]
  rfl

end Butterfly

/-- Settles O44. -/
theorem bflyComputesOneButterfly : Obligations.BflyComputesOneButterfly := by
  intro xa xb xm inv s _ ho a b m wr wi ur ui vr vi tr ti scaled
  have hscaled : ∀ z, halved (inv == 1) z = scaled z := fun z => by
    simp only [halved, scaled, beq_iff_eq]
  have hwi : turnIm (inv == 1) m s = wi := by
    simp only [turnIm, wi, beq_iff_eq]
  have htr : turnedRe (inv == 1) b m s = tr := by rw [turnedRe, hwi]
  have hti : turnedIm (inv == 1) b m s = ti := by rw [turnedIm, hwi]
  have hnote : Noted (butterflyNote (inv == 1) a b m s) s (effect (.bfly xa xb xm inv) s) := butterfly_noted _ a b m s
  have hfr := butterfly_fr (inv == 1) a b m s
  have hfi := butterfly_fi (inv == 1) a b m s
  simp only [butterflyNote, sumRe, sumIm, diffRe, diffIm, hscaled, htr, hti] at hnote hfr hfi
  refine ⟨_, exec_of_operands ho rfl (by simp), (effect_touchesOnly (.bfly xa xb xm inv) s).complete, hfr, hfi,
    hnote.errorBits, ?_⟩
  simpa only [complete_sat, Bool.or_assoc] using hnote.sat

end Sys2Proof.Proofs
end

section
/-! # The transform (44_phase_vocoder.md R173) -/

namespace Sys2Proof.Proofs

open Sys2Proof.Machine Sys2Proof.Safety

-- Proofs one after the other: each thread of the compiler counts against the check's memory limit.
set_option Elab.async false

/-! ### Its stages -/

/-- The stage of lengths `2^(st+1)` of a transform of `N` entries. -/
def stageLoop (N : Nat) (inv : Bool) (st : Nat) (u : State) : State :=
  iter (N / 2 ^ (st + 1)) (fun q u =>
    iter (2 ^ st) (fun j u =>
      butterfly inv (q * 2 ^ (st + 1) + j) (q * 2 ^ (st + 1) + j + 2 ^ st) (j * (N / 2 ^ (st + 1))) u) u) u

theorem fftStage_eq (inv : Bool) (st : Nat) (u : State) : fftStage inv st u = stageLoop u.cfg.pvN inv st u := by
  have hhalf : 2 ^ (st + 1) / 2 = 2 ^ st := by rw [Nat.pow_succ, Nat.mul_div_cancel _ (by omega)]
  simp only [fftStage, stageLoop, hhalf]

theorem cfg_stages (inv : Bool) (n : Nat) (s : State) : (iter n (fftStage inv) s).cfg = s.cfg :=
  (TouchesOnly.iter (i := .fft 0) (fftStage_touchesOnly inv)).field State.cfg fun _ _ => rfl

theorem stages_eq (inv : Bool) (n : Nat) (s : State) :
    iter n (fftStage inv) s = iter n (stageLoop s.cfg.pvN inv) s := by
  induction n with
  | zero => rw [iter_zero, iter_zero]
  | succ n ih =>
    calc iter (n + 1) (fftStage inv) s = fftStage inv n (iter n (fftStage inv) s) := iter_succ _ _ _
      _ = stageLoop s.cfg.pvN inv n (iter n (fftStage inv) s) := by
        rw [fftStage_eq, cfg_stages]
      _ = stageLoop s.cfg.pvN inv n (iter n (stageLoop s.cfg.pvN inv) s) := congrArg _ ih

/-- The transform is the bit reversal and then its stages. -/
theorem fftRun_eq (inv : Bool) (s : State) :
    fftRun inv s = iter (Nat.log2 s.cfg.pvN) (stageLoop s.cfg.pvN inv) (bitReversal s) := by
  have hcfg : (bitReversal s).cfg = s.cfg := bitReversed_cfg _ s
  rw [fftRun, stages_eq, hcfg]

theorem butterfly_complete (inv : Bool) (a b m : Nat) (s : State) :
    butterfly inv a b m s.complete = (butterfly inv a b m s).complete := by
  cases s
  rfl

/-- A stage does not look at the command's progress. -/
theorem stageLoop_complete (N : Nat) (inv : Bool) (st : Nat) (s : State) :
    stageLoop N inv st s.complete = (stageLoop N inv st s).complete :=
  iter_comm State.complete _ _ s fun _ b => iter_comm State.complete _ _ b fun _ c => butterfly_complete _ _ _ _ c

/-- What every butterfly of a stage keeps, the stage keeps. -/
theorem stageLoop_inv {N : Nat} {inv : Bool} {st : Nat} (P : State → Prop) {s : State} (h : P s)
    (hstep : ∀ a b m u, a < N → b < N → P u → P (butterfly inv a b m u)) : P (stageLoop N inv st s) := by
  refine iter_inv (fun _ => P) _ _ s h fun q u hq hu => iter_inv (fun _ => P) _ _ u hu fun j w hj hw => ?_
  have hblock : (q + 1) * 2 ^ (st + 1) ≤ N := (Nat.le_div_iff_mul_le (by positivity)).mp hq
  rw [Nat.succ_mul, Nat.pow_succ] at hblock
  refine hstep _ _ _ w ?_ ?_ hw <;> rw [Nat.pow_succ] <;> omega

/-- The entries from `N` on are not the transform's. -/
theorem stages_out (N : Nat) (inv : Bool) (n : Nat) (s : State) {k : Nat} (hk : N ≤ k) :
    (iter n (stageLoop N inv) s).pv.fr.read 0 k = s.pv.fr.read 0 k ∧
    (iter n (stageLoop N inv) s).pv.fi.read 0 k = s.pv.fi.read 0 k :=
  iter_inv (fun _ u => u.pv.fr.read 0 k = s.pv.fr.read 0 k ∧ u.pv.fi.read 0 k = s.pv.fi.read 0 k) n _ s ⟨rfl, rfl⟩
    fun st u _ hu => stageLoop_inv
      (fun w => w.pv.fr.read 0 k = s.pv.fr.read 0 k ∧ w.pv.fi.read 0 k = s.pv.fi.read 0 k) hu fun a b m w ha hb hw => by
      obtain ⟨hr, hi⟩ := hw
      rw [butterfly_fr, butterfly_fi, if_neg (by omega), if_neg (by omega), if_neg (by omega), if_neg (by omega)]
      exact ⟨hr, hi⟩

/-- Settles O45. -/
theorem fftRunsItsButterflyStages : Obligations.FftRunsItsButterflyStages := by
  intro inv s hok hinv
  refine ⟨_, _, exec_of_operands (i := .fft inv) hinv rfl (by simp),
    exec_of_operands (i := .fftbrev) trivial rfl (by simp), (effect_touchesOnly (.fft inv) s).complete,
    errorBits_complete (fftRun_mayNote (inv == 1) s).errorBits, fun i hi => ?_, ?_⟩
  · obtain ⟨hr, him⟩ := stages_out s.cfg.pvN (inv == 1) (Nat.log2 s.cfg.pvN) (bitReversal s) hi
    obtain ⟨hbr, hbi⟩ := (bitReversal_reads hok).2 i hi
    rw [State.complete_pv, effect, fftRun_eq]
    exact ⟨hr.trans hbr, him.trans hbi⟩
  · rw [effect, effect, fftRun_eq]
    exact (iter_comm State.complete _ _ _ (stageLoop_complete s.cfg.pvN (inv == 1))).symm

/-! ### The transform of a constant -/

theorem toInt_zero_word : (0 : Word).toInt = 0 := rfl

theorem rnd1_double (z : Int) : rnd 1 (z + z) = z := by
  rw [rnd1_eq]
  omega

/-- A butterfly of two zero entries leaves them zero. -/
theorem butterfly_zero {a b m : Nat} {s : State}
    (ha : s.pv.fr.read 0 a = 0 ∧ s.pv.fi.read 0 a = 0) (hb : s.pv.fr.read 0 b = 0 ∧ s.pv.fi.read 0 b = 0) :
    Noted false s (butterfly false a b m s) ∧ ∀ k, (butterfly false a b m s).pv.fr.read 0 k = s.pv.fr.read 0 k ∧
      (butterfly false a b m s).pv.fi.read 0 k = s.pv.fi.read 0 k := by
  obtain ⟨har, hai⟩ := ha
  obtain ⟨hbr, hbi⟩ := hb
  have htr : turnedRe false b m s = 0 := by
    rw [turnedRe, hbr, hbi, toInt_zero_word, Int.mul_zero, Int.mul_zero]
    rfl
  have hti : turnedIm false b m s = 0 := by
    rw [turnedIm, hbr, hbi, toInt_zero_word, Int.mul_zero, Int.mul_zero]
    rfl
  have hsr : sumRe false a b m s = 0 := by rw [sumRe, htr, har]; rfl
  have hsi : sumIm false a b m s = 0 := by rw [sumIm, hti, hai]; rfl
  have hdr : diffRe false a b m s = 0 := by rw [diffRe, htr, har]; rfl
  have hdi : diffIm false a b m s = 0 := by rw [diffIm, hti, hai]; rfl
  have hzero : sat32 0 = 0 := rfl
  refine ⟨(butterfly_noted false a b m s).congr ?_, fun k => ?_⟩
  · rw [butterflyNote, hsr, hsi, hdr, hdi]
    rfl
  · rw [butterfly_fr, butterfly_fi, hsr, hsi, hdr, hdi, hzero]
    by_cases hkb : k = b
    · subst hkb
      rw [if_pos rfl, if_pos rfl, hbr, hbi]
      exact ⟨rfl, rfl⟩
    · by_cases hka : k = a
      · subst hka
        rw [if_neg hkb, if_neg hkb, if_pos rfl, if_pos rfl, har, hai]
        exact ⟨rfl, rfl⟩
      · rw [if_neg hkb, if_neg hkb, if_neg hka, if_neg hka]
        exact ⟨rfl, rfl⟩

/-- A butterfly without a turn of two equal real entries keeps the first and clears the second. -/
theorem butterfly_equal {a b : Nat} {v : Word} {s : State} (hok : s.cfg.ok = true)
    (ha : s.pv.fr.read 0 a = v ∧ s.pv.fi.read 0 a = 0) (hb : s.pv.fr.read 0 b = v ∧ s.pv.fi.read 0 b = 0) :
    Noted false s (butterfly false a b 0 s) ∧
    (∀ k, (butterfly false a b 0 s).pv.fr.read 0 k = if k = b then 0 else s.pv.fr.read 0 k) ∧
    ∀ k, (butterfly false a b 0 s).pv.fi.read 0 k = s.pv.fi.read 0 k := by
  obtain ⟨har, hai⟩ := ha
  obtain ⟨hbr, hbi⟩ := hb
  obtain ⟨hwr, hwi, -⟩ := table_anchors hok
  have him : turnIm false 0 s = 0 := hwi
  have htr : turnedRe false b 0 s = v.toInt := by
    rw [turnedRe, him, hwr, hbr, Int.zero_mul, Int.sub_zero, rnd24_unit]
  have hti : turnedIm false b 0 s = 0 := by
    rw [turnedIm, him, hbi, toInt_zero_word, Int.mul_zero, Int.zero_mul]
    rfl
  have hsr : sumRe false a b 0 s = v.toInt := by
    rw [sumRe, htr, har]
    exact rnd1_double _
  have hsi : sumIm false a b 0 s = 0 := by rw [sumIm, hti, hai]; rfl
  have hdr : diffRe false a b 0 s = 0 := by
    rw [diffRe, htr, har, Int.sub_self]
    rfl
  have hdi : diffIm false a b 0 s = 0 := by rw [diffIm, hti, hai]; rfl
  have hzero : sat32 0 = 0 := rfl
  refine ⟨(butterfly_noted false a b 0 s).congr ?_, fun k => ?_, fun k => ?_⟩
  · rw [butterflyNote, hsr, hsi, hdr, hdi, clips_word]
    rfl
  · rw [butterfly_fr, hsr, hdr, hzero, sat32_toInt_word]
    by_cases hka : k = a
    · rw [if_pos hka, hka, har]
    · rw [if_neg hka]
  · rw [butterfly_fi, hsi, hdi, hzero]
    by_cases hkb : k = b
    · rw [if_pos hkb, hkb, hbi]
    · by_cases hka : k = a
      · rw [if_neg hkb, if_pos hka, hka, hai]
      · rw [if_neg hkb, if_neg hka]

/-- In a stage of half length `L`, after its first `q` blocks: `v` is left at the even multiples of `L` in those blocks
and at every multiple in the others, and nothing has clipped. -/
def constantBins (v : Word) (L q : Nat) (s b : State) : Prop :=
  b.cfg = s.cfg ∧ Noted false s b ∧ ∀ k, k < s.cfg.pvN →
    b.pv.fr.read 0 k = (if k % L = 0 ∧ (k / L % 2 = 0 ∨ q ≤ k / L / 2) then v else 0) ∧ b.pv.fi.read 0 k = 0

section Constant

variable {v : Word} {L q : Nat} {s b : State}

/-- The butterfly that leads block `q` clears the block's middle entry. -/
theorem constantBins_lead (hok : s.cfg.ok = true) (hL : 0 < L) (hq : q * (L * 2) + L < s.cfg.pvN)
    (h : constantBins v L q s b) :
    constantBins v L (q + 1) s (butterfly false (q * (L * 2)) (q * (L * 2) + L) 0 b) := by
  obtain ⟨hcfg, hnote, hread⟩ := h
  have hfirst : q * (L * 2) = L * (2 * q) := by ring
  have hmiddle : q * (L * 2) + L = L * (2 * q + 1) := by ring
  obtain ⟨har, hai⟩ := hread (q * (L * 2)) (by omega)
  obtain ⟨hbr, hbi⟩ := hread (q * (L * 2) + L) hq
  rw [hfirst, Nat.mul_mod_right, Nat.mul_div_cancel_left _ hL, if_pos (by omega)] at har
  rw [hmiddle, Nat.mul_mod_right, Nat.mul_div_cancel_left _ hL, if_pos (by omega)] at hbr
  rw [← hfirst] at har
  rw [← hmiddle] at hbr
  obtain ⟨hn, hfr, hfi⟩ := butterfly_equal (by rw [hcfg]; exact hok) ⟨har, hai⟩ ⟨hbr, hbi⟩
  refine ⟨hcfg, hnote.trans hn, fun k hk => ⟨?_, by rw [hfi]; exact (hread k hk).2⟩⟩
  rw [hfr, (hread k hk).1]
  have hdm := Nat.div_add_mod k L
  by_cases hkb : k = q * (L * 2) + L
  · rw [if_pos hkb, hkb, hmiddle, Nat.mul_div_cancel_left _ hL, if_neg (by omega)]
  · have hne : k % L = 0 → k / L ≠ 2 * q + 1 := fun hmod hdiv => hkb (by rw [hmiddle, ← hdiv]; omega)
    rw [if_neg hkb]
    exact if_congr (and_congr_right fun hmod => by have := hne hmod; omega) rfl rfl

/-- The other butterflies of a block meet zero entries only. -/
theorem constantBins_rest {p j m : Nat} (hj : 0 < j) (hjL : j < L) (hp : p * (L * 2) + j + L < s.cfg.pvN)
    (h : constantBins v L q s b) :
    constantBins v L q s (butterfly false (p * (L * 2) + j) (p * (L * 2) + j + L) m b) := by
  obtain ⟨hcfg, hnote, hread⟩ := h
  have hfirst : (p * (L * 2) + j) % L = j := by
    rw [show p * (L * 2) + j = j + L * (2 * p) by ring, Nat.add_mul_mod_self_left, Nat.mod_eq_of_lt hjL]
  have hmiddle : (p * (L * 2) + j + L) % L = j := by rw [Nat.add_mod_right, hfirst]
  obtain ⟨har, hai⟩ := hread (p * (L * 2) + j) (by omega)
  obtain ⟨hbr, hbi⟩ := hread (p * (L * 2) + j + L) hp
  rw [if_neg (by omega)] at har hbr
  obtain ⟨hn, hkeep⟩ := butterfly_zero (m := m) ⟨har, hai⟩ ⟨hbr, hbi⟩
  refine ⟨hcfg, hnote.trans hn, fun k hk => ?_⟩
  rw [(hkeep k).1, (hkeep k).2]
  exact hread k hk

/-- A whole stage doubles the distance between the entries that are left. -/
theorem constantBins_stage {st : Nat} (hok : s.cfg.ok = true) (hst : st < Nat.log2 s.cfg.pvN)
    (h : constantBins v (2 ^ st) 0 s b) :
    constantBins v (2 ^ (st + 1)) 0 s (stageLoop s.cfg.pvN false st b) := by
  obtain ⟨-, -, -, ⟨hp, -⟩, -⟩ := cfg_ok hok
  have hL : 0 < 2 ^ st := by positivity
  have hdvd : 2 ^ st * 2 ∣ s.cfg.pvN := by
    rw [hp, ← Nat.pow_succ]
    exact Nat.pow_dvd_pow 2 hst
  have hloop : constantBins v (2 ^ st) (s.cfg.pvN / (2 ^ st * 2)) s (stageLoop s.cfg.pvN false st b) := by
    rw [stageLoop, Nat.pow_succ]
    generalize 2 ^ st = L at *
    refine iter_inv (fun q u => constantBins v L q s u) _ _ b h fun q u hq hu => ?_
    have hblock : (q + 1) * (L * 2) ≤ s.cfg.pvN := (Nat.le_div_iff_mul_le (by omega)).mp hq
    rw [Nat.succ_mul] at hblock
    have hinner := iter_inv (fun j w => constantBins v L (if j = 0 then q else q + 1) s w) L
      (fun j w => butterfly false (q * (L * 2) + j) (q * (L * 2) + j + L) (j * (s.cfg.pvN / (L * 2))) w) u hu
      fun j w hj hw => by
        rw [if_neg (Nat.succ_ne_zero j)]
        by_cases hj0 : j = 0
        · subst hj0
          rw [Nat.zero_mul, Nat.add_zero]
          exact constantBins_lead hok hL (by omega) hw
        · rw [if_neg hj0] at hw
          exact constantBins_rest (by omega) hj (by omega) hw
    rwa [if_neg (by omega)] at hinner
  obtain ⟨hcfg, hnote, hread⟩ := hloop
  refine ⟨hcfg, hnote, fun k hk => ⟨?_, (hread k hk).2⟩⟩
  have hblock : k / 2 ^ st / 2 < s.cfg.pvN / (2 ^ st * 2) := by
    rw [Nat.div_div_eq_div_mul]
    exact Nat.div_lt_div_of_lt_of_dvd hdvd hk
  have hmod : k % 2 ^ (st + 1) = k % 2 ^ st + 2 ^ st * (k / 2 ^ st % 2) := by rw [Nat.pow_succ, Nat.mod_mul]
  rw [(hread k hk).1]
  refine if_congr ⟨fun ⟨hlow, heven⟩ => ⟨?_, .inr (Nat.zero_le _)⟩, fun ⟨hzero, _⟩ => ?_⟩ rfl rfl
  · rw [hmod, hlow, show k / 2 ^ st % 2 = 0 by omega]
    rfl
  · rw [hmod] at hzero
    obtain ⟨hlow, hprod⟩ := Nat.add_eq_zero_iff.mp hzero
    exact ⟨hlow, .inl ((Nat.mul_eq_zero.mp hprod).resolve_left (by omega))⟩

end Constant

/-- Settles O46: stage by stage, the entries that are left move apart, until bin 0 is left alone. -/
theorem forwardTransformOfAConstantIsItsDcBin : Obligations.ForwardTransformOfAConstantIsItsDcBin := by
  intro s v hok hconst
  obtain ⟨-, -, -, ⟨hp, -⟩, -⟩ := cfg_ok hok
  have hfirst : constantBins v (2 ^ 0) 0 s (bitReversal s) := by
    refine ⟨bitReversed_cfg _ s, noted_of_flags_eq ((bitReversal_touchesOnly s).field State.flags fun _ _ => rfl),
      fun k hk => ?_⟩
    have hrev : bitRev (Nat.log2 s.cfg.pvN) k < s.cfg.pvN := by
      conv_rhs => rw [hp]
      exact bitRev_lt _ _
    obtain ⟨hr, hi⟩ := (bitReversal_reads hok).1 k hk
    obtain ⟨hcr, hci⟩ := hconst _ hrev
    rw [hr, hi, hcr, hci, if_pos ⟨Nat.mod_one k, .inr (Nat.zero_le _)⟩]
    exact ⟨rfl, rfl⟩
  obtain ⟨-, hnote, hread⟩ := iter_inv (fun st u => constantBins v (2 ^ st) 0 s u) (Nat.log2 s.cfg.pvN) _ _ hfirst
    fun st u hst hu => constantBins_stage hok hst hu
  refine ⟨_, exec_of_operands (i := .fft 0) (Nat.zero_le 1) rfl (by simp), ?_, fun k hk => ?_⟩
  · have hsat := hnote.sat
    rw [Bool.or_false] at hsat
    rw [complete_sat, effect]
    exact (congrArg State.sat (fftRun_eq false s)).trans hsat
  · obtain ⟨hr, hi⟩ := hread k hk
    rw [State.complete_pv, effect]
    rw [← hp, Nat.mod_eq_of_lt hk] at hr
    rw [if_congr (and_iff_left (.inr (Nat.zero_le _))) rfl rfl] at hr
    refine ⟨?_, ?_⟩
    · exact (congrArg (fun u => u.pv.fr.read 0 k) (fftRun_eq false s)).trans hr
    · exact (congrArg (fun u => u.pv.fi.read 0 k) (fftRun_eq false s)).trans hi

end Sys2Proof.Proofs
end

section
/-! # The frame's other steps (44_phase_vocoder.md R180 to R184) -/

namespace Sys2Proof.Proofs

open Sys2Proof.Machine Sys2Proof.Safety

-- Proofs one after the other: each thread of the compiler counts against the check's memory limit.
set_option Elab.async false

/-! ### Loops over memories -/

/-- Each turn moves the entry `hop` ahead into its own place. -/
theorem loop_shifts {α β : Type} (rd : α → Nat → β) (hop n : Nat) (f : Nat → α → α) (s : α) (hpos : 0 < hop)
    (hstep : ∀ k, k < n → ∀ j,
      rd (f k (iter k f s)) j = if j = k then rd (iter k f s) (k + hop) else rd (iter k f s) j) (j : Nat) :
    rd (iter n f s) j = if j < n then rd s (j + hop) else rd s j := by
  have hinv : ∀ m, m ≤ n → ∀ j, rd (iter m f s) j = if j < m then rd s (j + hop) else rd s j := by
    intro m
    induction m with
    | zero => exact fun _ j => by rw [iter_zero, if_neg (Nat.not_lt_zero j)]
    | succ m ih =>
      intro hm j
      rw [iter_succ, hstep m hm, ih (by omega) (m + hop), ih (by omega) j, if_neg (show ¬ m + hop < m by omega)]
      by_cases hj : j = m
      · rw [if_pos hj, hj, if_pos (Nat.lt_succ_self m)]
      · rw [if_neg hj]
        exact if_congr (by omega) rfl rfl
  exact hinv n (Nat.le_refl n) j

/-! ### PVWIN (R180) -/

/-- A sample times a weight in [0, ONE] fits a word. -/
theorem rnd24_weighted_mem {h : Int} (h0 : 0 ≤ h) (h1 : h ≤ 16777216) (w : Word) :
    -2147483648 ≤ rnd 24 (h * w.toInt) ∧ rnd 24 (h * w.toInt) ≤ 2147483647 := by
  obtain ⟨hlo, hhi⟩ := word_toInt_mem w
  have hbelow : h * -2147483648 ≤ h * w.toInt := mul_le_mul_of_nonneg_left hlo h0
  have habove : h * w.toInt ≤ h * 2147483647 := mul_le_mul_of_nonneg_left hhi h0
  rw [rnd24_eq]
  omega

theorem windowed_cfg (k : Nat) (s : State) : (iter k windowBin s).cfg = s.cfg :=
  (TouchesOnly.iter (i := .pvwin) (f := windowBin) fun _ _ => rfl).field State.cfg fun _ _ => rfl

theorem windowed_inf (k : Nat) (s : State) : (iter k windowBin s).pv.inf = s.pv.inf :=
  (TouchesOnly.iter (i := .pvwin) (f := windowBin) fun _ _ => rfl).field (fun q => q.pv.inf) fun _ _ => rfl

theorem windowFrame_reads (s : State) (j : Nat) :
    ((windowFrame s).pv.fr.read 0 j =
      if j < s.cfg.pvN then wrapWord (rnd 24 (hann s.cfg j * (s.pv.inf.read 0 j).toInt)) else s.pv.fr.read 0 j) ∧
    (windowFrame s).pv.fi.read 0 j = if j < s.cfg.pvN then 0 else s.pv.fi.read 0 j := by
  refine ⟨loop_writes (fun b : State => b.pv.fr.read 0)
      (fun k => wrapWord (rnd 24 (hann s.cfg k * (s.pv.inf.read 0 k).toInt))) _ windowBin s (fun k _ j => ?_) j,
    loop_writes (fun b : State => b.pv.fi.read 0) (fun _ => 0) _ windowBin s (fun k _ j => ?_) j⟩
  · rw [windowBin, Memory.read_write, windowed_cfg, windowed_inf]
    rfl
  · rw [windowBin, Memory.read_write]

/-- Settles O47. -/
theorem pvwinWindowsTheInput : Obligations.PvwinWindowsTheInput := by
  intro s _
  have hr := windowFrame_reads s
  refine ⟨_, exec_of_operands (i := .pvwin) trivial rfl (by simp), (effect_touchesOnly .pvwin s).complete,
    fun k hk => ?_, fun k hk => ?_⟩
  · obtain ⟨hfr, hfi⟩ := hr k
    obtain ⟨h0, h1⟩ := hann_mem s.cfg k
    obtain ⟨hlo, hhi⟩ := rnd24_weighted_mem h0 h1 (s.pv.inf.read 0 k)
    rw [if_pos hk] at hfr hfi
    rw [State.complete_pv, effect]
    refine ⟨?_, hfi⟩
    rw [hfr]
    exact toInt_ofInt_word hlo hhi
  · obtain ⟨hfr, hfi⟩ := hr k
    rw [if_neg (by omega)] at hfr hfi
    exact ⟨hfr, hfi⟩

/-! ### PVANA (R181) -/

theorem toInt_ofInt_freq {v : Int} (hlo : -140737488355328 ≤ v) (hhi : v < 140737488355328) :
    (BitVec.ofInt 48 v).toInt = v := by
  rw [BitVec.toInt_ofInt]
  exact Int.bmod_eq_of_le hlo hhi

/-- The phase that bin `k` advances by in one hop. -/
def nominalPhase (s : State) (k : Nat) : Int := k * s.cfg.binStep

/-- The true frequency of bin `k`. -/
def trueFreq (s : State) (k : Nat) : Int :=
  nominalPhase s k + unwrap ((atan2t (s.pv.fi.read 0 k) (s.pv.fr.read 0 k)).toInt -
    (s.pv.lastph.read 0 k).toInt - nominalPhase s k)

theorem toInt_trueFreq {s : State} (hok : s.cfg.ok = true) {k : Nat} (hk : k ≤ s.cfg.pvN / 2) :
    (BitVec.ofInt 48 (trueFreq s k)).toInt = trueFreq s k := by
  obtain ⟨-, -, -, ⟨-, -, hN⟩, -⟩ := cfg_ok hok
  have hstep : s.cfg.binStep ≤ 2 ^ 32 := Nat.div_le_self _ _
  have hprod : k * s.cfg.binStep ≤ 2 ^ 14 * 2 ^ 32 := Nat.mul_le_mul (by omega) hstep
  have hnom0 : 0 ≤ nominalPhase s k := by
    rw [nominalPhase]
    positivity
  have hnom1 : nominalPhase s k ≤ 70368744177664 := by
    rw [nominalPhase]
    exact_mod_cast hprod
  obtain ⟨-, hlo, hhi⟩ := unwrapGivesTheRepresentativeAboveMinusHalf
    ((atan2t (s.pv.fi.read 0 k) (s.pv.fr.read 0 k)).toInt - (s.pv.lastph.read 0 k).toInt - nominalPhase s k)
  have hmem : -140737488355328 ≤ trueFreq s k ∧ trueFreq s k < 140737488355328 := by
    rw [trueFreq]
    omega
  exact toInt_ofInt_freq hmem.1 hmem.2

theorem analysed_spectrum (n : Nat) (s : State) : (iter n analyseBin s).cfg = s.cfg ∧
    (iter n analyseBin s).pv.fr = s.pv.fr ∧ (iter n analyseBin s).pv.fi = s.pv.fi := by
  have h : TouchesOnly .pvana s (iter n analyseBin s) := .iter fun _ _ => rfl
  exact ⟨h.field State.cfg fun _ _ => rfl, h.field (fun q => q.pv.fr) fun _ _ => rfl,
    h.field (fun q => q.pv.fi) fun _ _ => rfl⟩

/-- The three results for the bins below `n`, and the words that stay. -/
theorem analysed_reads (s : State) (n j : Nat) :
    ((iter n analyseBin s).pv.amag.read 0 j =
      if j < n then magq (s.pv.fr.read 0 j) (s.pv.fi.read 0 j) else s.pv.amag.read 0 j) ∧
    ((iter n analyseBin s).pv.lastph.read 0 j =
      if j < n then atan2t (s.pv.fi.read 0 j) (s.pv.fr.read 0 j) else s.pv.lastph.read 0 j) ∧
    (iter n analyseBin s).pv.afrq.read 0 j =
      if j < n then BitVec.ofInt 48 (trueFreq s j) else s.pv.afrq.read 0 j := by
  have hph : ∀ n j, (iter n analyseBin s).pv.lastph.read 0 j =
      if j < n then atan2t (s.pv.fi.read 0 j) (s.pv.fr.read 0 j) else s.pv.lastph.read 0 j := fun n =>
    loop_writes (fun b : State => b.pv.lastph.read 0) (fun k => atan2t (s.pv.fi.read 0 k) (s.pv.fr.read 0 k)) n
      analyseBin s fun k _ j => by
        obtain ⟨-, hfr, hfi⟩ := analysed_spectrum k s
        rw [analyseBin, Memory.read_write, hfr, hfi]
        rfl
  refine ⟨loop_writes (fun b : State => b.pv.amag.read 0) (fun k => magq (s.pv.fr.read 0 k) (s.pv.fi.read 0 k)) n
    analyseBin s (fun k _ j => ?_) j, hph n j, loop_writes (fun b : State => b.pv.afrq.read 0)
    (fun k => BitVec.ofInt 48 (trueFreq s k)) n analyseBin s (fun k _ j => ?_) j⟩
  · obtain ⟨-, hfr, hfi⟩ := analysed_spectrum k s
    rw [analyseBin, Memory.read_write, hfr, hfi]
    rfl
  · obtain ⟨hcfg, hfr, hfi⟩ := analysed_spectrum k s
    have hlast := hph k k
    rw [if_neg (Nat.lt_irrefl k)] at hlast
    rw [analyseBin, Memory.read_write, hfr, hfi, hcfg, Memory.at0, Memory.at0, Memory.at0, hlast, trueFreq,
      nominalPhase]

/-- Settles O48. -/
theorem pvanaAnalysesEveryBin : Obligations.PvanaAnalysesEveryBin := by
  intro s hok
  refine ⟨_, exec_of_operands (i := .pvana) trivial rfl (by simp), (effect_touchesOnly .pvana s).complete,
    fun k hk => ?_, fun k hk => ?_⟩
  · intro re im e
    have hlt : k < s.cfg.half + 1 := Nat.lt_succ_of_le hk
    obtain ⟨hmag, hph, hfreq⟩ := analysed_reads s (s.cfg.half + 1) k
    rw [if_pos hlt] at hmag hph hfreq
    refine ⟨hmag, hph, ?_⟩
    exact (congrArg BitVec.toInt hfreq).trans (toInt_trueFreq hok hk)
  · have hge : ¬ k < s.cfg.half + 1 := Nat.not_lt.mpr hk
    obtain ⟨hmag, hph, hfreq⟩ := analysed_reads s (s.cfg.half + 1) k
    rw [if_neg hge] at hmag hph hfreq
    exact ⟨hmag, hph, hfreq⟩

end Sys2Proof.Proofs
end

section
/-! # Shifting, synthesis and overlap-add (44_phase_vocoder.md R182 to R184) -/

namespace Sys2Proof.Proofs

open Sys2Proof.Machine Sys2Proof.Safety

-- Proofs one after the other: each thread of the compiler counts against the check's memory limit.
set_option Elab.async false

/-! ### PVSYN (R183) -/

section Synth

variable (s : State) (k : Nat)

/-- The phase of bin `k` in this frame. -/
def synthPhase : Word := wrapWord ((s.pv.sumph.read 0 k).toInt + (s.pv.sfrq.read 0 k).toInt)

/-- The magnitude of bin `k`, doubled between 0 and H. -/
def synthWeight : Int :=
  if k = 0 ∨ k = s.cfg.half then (s.pv.smag.read 0 k).toInt else 2 * (s.pv.smag.read 0 k).toInt

def synthRe : Int := rnd 24 (synthWeight s k * cost (synthPhase s k))

def synthIm : Int := rnd 24 (synthWeight s k * sint (synthPhase s k))

theorem synthBin_eq : synthBin k s = ({ s with pv := { s.pv with
    sumph := s.pv.sumph.write k (synthPhase s k)
    fr := s.pv.fr.write k (sat32 (synthRe s k))
    fi := s.pv.fi.write k (sat32 (synthIm s k)) } } : State).noteSat
      (clips (synthRe s k) || clips (synthIm s k)) := rfl

theorem synthBins_inputs : (iter k synthBin s).cfg = s.cfg ∧ (iter k synthBin s).pv.sfrq = s.pv.sfrq ∧
    (iter k synthBin s).pv.smag = s.pv.smag := by
  have h := synthBins_touchesOnly k s
  exact ⟨h.field State.cfg fun _ _ => rfl, h.field (fun q => q.pv.sfrq) fun _ _ => rfl,
    h.field (fun q => q.pv.smag) fun _ _ => rfl⟩

theorem synthBins_sumph (j : Nat) : (iter k synthBin s).pv.sumph.read 0 j =
    if j < k then synthPhase s j else s.pv.sumph.read 0 j := by
  obtain ⟨hw, hout⟩ := loop_updates_all (fun b : State => b.pv.sumph.read 0) id
    (fun c w => wrapWord (w.toInt + (s.pv.sfrq.read 0 c).toInt)) k synthBin s (fun _ _ _ _ h => h) fun c _ j => by
      obtain ⟨-, hsf, -⟩ := synthBins_inputs s c
      rw [synthBin_eq, State.noteSat_pv, Memory.read_write, synthPhase, hsf]
      exact ite_congr rfl (fun h => by rw [h]; rfl) fun _ => rfl
  split
  · next h => exact hw j h
  · next h => exact hout j fun c hc he => h (by rw [he]; exact hc)

/-- The turn of bin `k` works on the words that PVSYN found. -/
theorem synthBins_turn : synthPhase (iter k synthBin s) k = synthPhase s k ∧
    synthRe (iter k synthBin s) k = synthRe s k ∧ synthIm (iter k synthBin s) k = synthIm s k := by
  obtain ⟨hcfg, hsf, hsm⟩ := synthBins_inputs s k
  have hsum := synthBins_sumph s k k
  rw [if_neg (Nat.lt_irrefl k)] at hsum
  have hph : synthPhase (iter k synthBin s) k = synthPhase s k := by rw [synthPhase, hsum, hsf, synthPhase]
  have hweight : synthWeight (iter k synthBin s) k = synthWeight s k := by rw [synthWeight, hcfg, hsm, synthWeight]
  exact ⟨hph, by rw [synthRe, hph, hweight, synthRe], by rw [synthIm, hph, hweight, synthIm]⟩

theorem synthBins_spectrum (j : Nat) :
    ((iter k synthBin s).pv.fr.read 0 j = if j < k then sat32 (synthRe s j) else s.pv.fr.read 0 j) ∧
    (iter k synthBin s).pv.fi.read 0 j = if j < k then sat32 (synthIm s j) else s.pv.fi.read 0 j := by
  refine ⟨loop_writes (fun b : State => b.pv.fr.read 0) (fun c => sat32 (synthRe s c)) k synthBin s (fun c _ j => ?_) j,
    loop_writes (fun b : State => b.pv.fi.read 0) (fun c => sat32 (synthIm s c)) k synthBin s (fun c _ j => ?_) j⟩
  · obtain ⟨-, hre, -⟩ := synthBins_turn s c
    rw [synthBin_eq, State.noteSat_pv, Memory.read_write, hre]
  · obtain ⟨-, -, him⟩ := synthBins_turn s c
    rw [synthBin_eq, State.noteSat_pv, Memory.read_write, him]

theorem synthBins_noted :
    Noted ((List.range k).any fun c => clips (synthRe s c) || clips (synthIm s c)) s (iter k synthBin s) :=
  Noted.iter fun c _ => by
    obtain ⟨-, hre, him⟩ := synthBins_turn s c
    rw [← hre, ← him, synthBin_eq]
    rfl

/-- The second loop zeroes the `n` bins above H. -/
theorem zeroedBins_reads (n j : Nat) :
    ((iter n zeroUpperBin s).pv.fr.read 0 j =
      if s.cfg.half < j ∧ j < s.cfg.half + 1 + n then 0 else s.pv.fr.read 0 j) ∧
    (iter n zeroUpperBin s).pv.fi.read 0 j =
      if s.cfg.half < j ∧ j < s.cfg.half + 1 + n then 0 else s.pv.fi.read 0 j := by
  have hcfg : ∀ c, (iter c zeroUpperBin s).cfg = s.cfg := fun c => iter_field State.cfg c _ s fun _ _ => rfl
  have hinj : ∀ c d : Nat, c < n → d < n → s.cfg.half + 1 + c = s.cfg.half + 1 + d → c = d := fun c d _ _ h => by omega
  obtain ⟨hrw, hrout⟩ := loop_updates_all (fun b : State => b.pv.fr.read 0) (fun c => s.cfg.half + 1 + c)
    (fun _ _ => 0) n zeroUpperBin s hinj fun c _ j => by
      rw [zeroUpperBin, Memory.read_write, hcfg]
  obtain ⟨hiw, hiout⟩ := loop_updates_all (fun b : State => b.pv.fi.read 0) (fun c => s.cfg.half + 1 + c)
    (fun _ _ => 0) n zeroUpperBin s hinj fun c _ j => by
      rw [zeroUpperBin, Memory.read_write, hcfg]
  by_cases h : s.cfg.half < j ∧ j < s.cfg.half + 1 + n
  · have hj : s.cfg.half + 1 + (j - (s.cfg.half + 1)) = j := by omega
    have hr := hrw (j - (s.cfg.half + 1)) (by omega)
    have hi := hiw (j - (s.cfg.half + 1)) (by omega)
    rw [hj] at hr hi
    rw [if_pos h, if_pos h]
    exact ⟨hr, hi⟩
  · rw [if_neg h, if_neg h]
    exact ⟨hrout j fun c hc he => h (by omega), hiout j fun c hc he => h (by omega)⟩

end Synth

/-- Settles O50. -/
theorem pvsynSynthesisesEveryBin : Obligations.PvsynSynthesisesEveryBin := by
  intro s hok ph w re im
  obtain ⟨-, -, -, ⟨-, hN, -⟩, -⟩ := cfg_ok hok
  have hhalf : s.cfg.half = s.cfg.pvN / 2 := rfl
  have hcfg : (iter (s.cfg.half + 1) synthBin s).cfg = s.cfg := (synthBins_inputs s _).1
  have hzero := zeroedBins_reads (iter (s.cfg.half + 1) synthBin s) (s.cfg.pvN - (s.cfg.half + 1))
  have hbins := synthBins_spectrum s (s.cfg.half + 1)
  have hsumph : (synthFrame s).pv.sumph = (iter (s.cfg.half + 1) synthBin s).pv.sumph :=
    iter_field (fun q : State => q.pv.sumph) _ zeroUpperBin _ fun _ _ => rfl
  have hflags : (synthFrame s).flags = (iter (s.cfg.half + 1) synthBin s).flags := flags_iter _ fun _ _ => rfl
  have hnote : Noted ((List.range (s.cfg.half + 1)).any fun c => clips (synthRe s c) || clips (synthIm s c)) s
      (synthFrame s) := by
    unfold Noted
    rw [hflags]
    exact synthBins_noted s _
  rw [hcfg] at hzero
  refine ⟨_, exec_of_operands (i := .pvsyn) trivial rfl (by simp), (effect_touchesOnly .pvsyn s).complete,
    fun k hk => ⟨?_, ?_, ?_⟩, fun k hlo hhi => ⟨?_, ?_⟩, fun k hk => ?_, fun k hk => ⟨?_, ?_⟩,
    errorBits_complete hnote.errorBits, ?_⟩
  · exact (congrArg (fun m => m.read 0 k) hsumph).trans
      ((synthBins_sumph s _ k).trans (if_pos (by omega)))
  · exact ((hzero k).1.trans (if_neg (by omega))).trans ((hbins k).1.trans (if_pos (by omega)))
  · exact ((hzero k).2.trans (if_neg (by omega))).trans ((hbins k).2.trans (if_pos (by omega)))
  · exact (hzero k).1.trans (if_pos (by omega))
  · exact (hzero k).2.trans (if_pos (by omega))
  · exact (congrArg (fun m => m.read 0 k) hsumph).trans
      ((synthBins_sumph s _ k).trans (if_neg (by omega)))
  · exact ((hzero k).1.trans (if_neg (by omega))).trans ((hbins k).1.trans (if_neg (by omega)))
  · exact ((hzero k).2.trans (if_neg (by omega))).trans ((hbins k).2.trans (if_neg (by omega)))
  · have hsat := hnote.sat
    rw [complete_sat, effect, hsat, Bool.or_eq_true, any_range_iff]
    exact or_congr_right (exists_congr fun k => and_congr_left fun _ => Nat.lt_succ_iff)

/-! ### PVOLA (R184) -/

section Overlap

variable (s : State) (k : Nat)

/-- The accumulator's word `k` with the windowed and scaled frame added. -/
def overlapSum : Int :=
  (s.pv.acc.read 0 k).toInt + rnd 48 (hann s.cfg k * (s.pv.fr.read 0 k).toInt * s.parQ pPvNorm)

theorem overlapBin_eq : overlapBin k s =
    ({ s with pv := { s.pv with acc := s.pv.acc.write k (sat32 (overlapSum s k)) } } : State).noteSat
      (clips (overlapSum s k)) := rfl

theorem overlapBins_touchesOnly : TouchesOnly .pvola s (iter k overlapBin s) := .iter fun _ _ => rfl

theorem overlapBins_inputs : (iter k overlapBin s).cfg = s.cfg ∧ (iter k overlapBin s).pv.fr = s.pv.fr ∧
    (iter k overlapBin s).parQ = s.parQ := by
  have h := overlapBins_touchesOnly s k
  exact ⟨h.field State.cfg fun _ _ => rfl, h.field (fun q => q.pv.fr) fun _ _ => rfl,
    h.field State.parQ fun _ _ => rfl⟩

theorem overlapBins_acc (j : Nat) : (iter k overlapBin s).pv.acc.read 0 j =
    if j < k then sat32 (overlapSum s j) else s.pv.acc.read 0 j := by
  obtain ⟨hw, hout⟩ := loop_updates_all (fun b : State => b.pv.acc.read 0) id
    (fun c w => sat32 (w.toInt + rnd 48 (hann s.cfg c * (s.pv.fr.read 0 c).toInt * s.parQ pPvNorm))) k overlapBin s
    (fun _ _ _ _ h => h) fun c _ j => by
      obtain ⟨hcfg, hfr, hpar⟩ := overlapBins_inputs s c
      rw [overlapBin_eq, State.noteSat_pv, Memory.read_write, overlapSum, hcfg, hfr, hpar]
      exact ite_congr rfl (fun h => by rw [h]; rfl) fun _ => rfl
  split
  · next h => exact hw j h
  · next h => exact hout j fun c hc he => h (by rw [he]; exact hc)

theorem overlapBins_noted :
    Noted ((List.range k).any fun c => clips (overlapSum s c)) s (iter k overlapBin s) :=
  Noted.iter fun c _ => by
    obtain ⟨hcfg, hfr, hpar⟩ := overlapBins_inputs s c
    have hacc := overlapBins_acc s c c
    rw [if_neg (Nat.lt_irrefl c)] at hacc
    have hsum : overlapSum (iter c overlapBin s) c = overlapSum s c := by
      rw [overlapSum, hcfg, hfr, hpar, hacc, overlapSum]
    rw [← hsum, overlapBin_eq]
    rfl

/-- The second loop copies the accumulator's first words into OUTF. -/
theorem emitBins : (iter k emitBin s).cfg = s.cfg ∧ (iter k emitBin s).pv.acc = s.pv.acc ∧
    (iter k emitBin s).pv.inf = s.pv.inf ∧
    ∀ j, (iter k emitBin s).pv.outf.read 0 j = if j < k then s.pv.acc.read 0 j else s.pv.outf.read 0 j := by
  have hacc : ∀ c, (iter c emitBin s).pv.acc = s.pv.acc := fun c =>
    iter_field (fun q : State => q.pv.acc) c _ s fun _ _ => rfl
  refine ⟨iter_field State.cfg k _ s fun _ _ => rfl, hacc k,
    iter_field (fun q : State => q.pv.inf) k _ s fun _ _ => rfl,
    loop_writes (fun b : State => b.pv.outf.read 0) (fun c => s.pv.acc.read 0 c) k emitBin s fun c _ j => ?_⟩
  rw [emitBin, Memory.read_write, hacc]
  rfl

/-- The third loop moves the accumulator one hop down. -/
theorem shiftAccBins (h : 0 < s.cfg.hop) : (iter k shiftAccBin s).cfg = s.cfg ∧
    (iter k shiftAccBin s).pv.outf = s.pv.outf ∧ (iter k shiftAccBin s).pv.inf = s.pv.inf ∧
    ∀ j, (iter k shiftAccBin s).pv.acc.read 0 j =
      if j < k then s.pv.acc.read 0 (j + s.cfg.hop) else s.pv.acc.read 0 j := by
  have hcfg : ∀ c, (iter c shiftAccBin s).cfg = s.cfg := fun c => iter_field State.cfg c _ s fun _ _ => rfl
  refine ⟨hcfg k, iter_field (fun q : State => q.pv.outf) k _ s fun _ _ => rfl,
    iter_field (fun q : State => q.pv.inf) k _ s fun _ _ => rfl,
    loop_shifts (fun b : State => b.pv.acc.read 0) s.cfg.hop k shiftAccBin s h fun c _ j => ?_⟩
  rw [shiftAccBin, Memory.read_write, hcfg]
  rfl

/-- The fourth loop clears the accumulator's words from `L` on. -/
theorem clearAccBins : (iter k clearAccBin s).cfg = s.cfg ∧ (iter k clearAccBin s).pv.outf = s.pv.outf ∧
    (iter k clearAccBin s).pv.inf = s.pv.inf ∧
    ∀ j, (iter k clearAccBin s).pv.acc.read 0 j =
      if s.cfg.pvL ≤ j ∧ j < s.cfg.pvL + k then 0 else s.pv.acc.read 0 j := by
  have hcfg : ∀ c, (iter c clearAccBin s).cfg = s.cfg := fun c => iter_field State.cfg c _ s fun _ _ => rfl
  obtain ⟨hw, hout⟩ := loop_updates_all (fun b : State => b.pv.acc.read 0) (fun c => s.cfg.pvL + c) (fun _ _ => 0) k
    clearAccBin s (fun c d _ _ h => Nat.add_left_cancel h) fun c _ j => by
      rw [clearAccBin, Memory.read_write, hcfg]
  refine ⟨hcfg k, iter_field (fun q : State => q.pv.outf) k _ s fun _ _ => rfl,
    iter_field (fun q : State => q.pv.inf) k _ s fun _ _ => rfl, fun j => ?_⟩
  split
  · next h =>
    have hj := hw (j - s.cfg.pvL) (by omega)
    rwa [show s.cfg.pvL + (j - s.cfg.pvL) = j by omega] at hj
  · next h => exact hout j fun c hc he => h (by omega)

/-- The fifth loop moves the input FIFO one hop down. -/
theorem shiftInBins (h : 0 < s.cfg.hop) : (iter k shiftInBin s).pv.outf = s.pv.outf ∧
    (iter k shiftInBin s).pv.acc = s.pv.acc ∧
    ∀ j, (iter k shiftInBin s).pv.inf.read 0 j =
      if j < k then s.pv.inf.read 0 (j + s.cfg.hop) else s.pv.inf.read 0 j := by
  refine ⟨iter_field (fun q : State => q.pv.outf) k _ s fun _ _ => rfl,
    iter_field (fun q : State => q.pv.acc) k _ s fun _ _ => rfl,
    loop_shifts (fun b : State => b.pv.inf.read 0) s.cfg.hop k shiftInBin s h fun c _ j => ?_⟩
  have hcfg : (iter c shiftInBin s).cfg = s.cfg := iter_field State.cfg c _ s fun _ _ => rfl
  rw [shiftInBin, Memory.read_write, hcfg]
  rfl

end Overlap

/-- What PVOLA leaves in its three memories. -/
theorem overlapFrame_reads {s : State} (hok : s.cfg.ok = true) (j : Nat) :
    ((overlapFrame s).pv.outf.read 0 j = if j < s.cfg.hop then sat32 (overlapSum s j) else s.pv.outf.read 0 j) ∧
    ((overlapFrame s).pv.acc.read 0 j =
      if j < s.cfg.pvL then sat32 (overlapSum s (j + s.cfg.hop)) else if j < s.cfg.pvN then 0
      else s.pv.acc.read 0 j) ∧
    (overlapFrame s).pv.inf.read 0 j =
      if j < s.cfg.pvL then s.pv.inf.read 0 (j + s.cfg.hop) else s.pv.inf.read 0 j := by
  obtain ⟨hpos, hL, hlt, -⟩ := pvL_lt hok
  have hle : s.cfg.hop ≤ s.cfg.pvN := Nat.div_le_self _ _
  have hb := overlapBins_acc s s.cfg.pvN
  obtain ⟨hbc, -⟩ := overlapBins_inputs s s.cfg.pvN
  have hbo : (iter s.cfg.pvN overlapBin s).pv.outf = s.pv.outf :=
    iter_field (fun q : State => q.pv.outf) _ overlapBin s fun _ _ => rfl
  have hbi : (iter s.cfg.pvN overlapBin s).pv.inf = s.pv.inf :=
    iter_field (fun q : State => q.pv.inf) _ overlapBin s fun _ _ => rfl
  unfold overlapFrame
  generalize iter s.cfg.pvN overlapBin s = b at hb hbc hbo hbi
  obtain ⟨hec, hea, hei, heo⟩ := emitBins b s.cfg.hop
  generalize iter s.cfg.hop emitBin b = e at hec hea hei heo
  rw [hbc] at hec
  obtain ⟨hac, hao, hai, haa⟩ := shiftAccBins e s.cfg.pvL (by rw [hec]; exact hpos)
  generalize iter s.cfg.pvL shiftAccBin e = a at hac hao hai haa
  rw [hec] at hac haa
  obtain ⟨hcc, hco, hci, hca⟩ := clearAccBins a s.cfg.hop
  generalize iter s.cfg.hop clearAccBin a = c at hcc hco hci hca
  rw [hac] at hcc hca
  obtain ⟨hio, hia, hii⟩ := shiftInBins c s.cfg.pvL (by rw [hcc]; exact hpos)
  refine ⟨?_, ?_, ?_⟩
  · rw [hio, hco, hao, heo, hbo]
    exact ite_congr rfl (fun h => by rw [hb, if_pos (by omega)]) fun _ => rfl
  · rw [hia, hca, haa, hea, hb, hb]
    by_cases hj : j < s.cfg.pvL
    · rw [if_neg (by omega), if_pos hj, if_pos (by omega), if_pos hj]
    · rw [if_neg hj, if_neg hj]
      by_cases hjN : j < s.cfg.pvN
      · rw [if_pos (by omega), if_pos hjN]
      · rw [if_neg (by omega), if_neg hjN, if_neg hjN]
  · rw [hii, hcc, hci, hai, hei, hbi]

/-- Settles O51. -/
theorem pvolaOverlapAddsAndShifts : Obligations.PvolaOverlapAddsAndShifts := by
  intro s hok hop sum
  obtain ⟨hpos, hL, hlt, -⟩ := pvL_lt hok
  have hhop : s.cfg.hop = hop := rfl
  have hr := overlapFrame_reads hok
  have hnote : Noted ((List.range s.cfg.pvN).any fun c => clips (overlapSum s c)) s (overlapFrame s) := by
    unfold Noted
    rw [overlapFrame_flags]
    exact overlapBins_noted s _
  refine ⟨_, exec_of_operands (i := .pvola) trivial rfl (by simp), (effect_touchesOnly .pvola s).complete,
    fun k hk => ?_, fun k hk => ?_, fun k hk => ⟨?_, ?_⟩, fun k hk hkN => ?_, fun k hk => ?_, fun k hk => ?_,
    errorBits_complete hnote.errorBits, ?_⟩
  · exact (hr k).1.trans (if_pos (by omega))
  · exact (hr k).1.trans (if_neg (by omega))
  · exact (hr k).2.1.trans (if_pos (by omega))
  · exact (hr k).2.2.trans (if_pos (by omega))
  · exact (hr k).2.1.trans ((if_neg (by omega)).trans (if_pos hkN))
  · exact (hr k).2.1.trans ((if_neg (by omega)).trans (if_neg (by omega)))
  · exact (hr k).2.2.trans (if_neg (by omega))
  · rw [complete_sat, effect, hnote.sat, Bool.or_eq_true, any_range_iff]
    exact Iff.rfl

end Sys2Proof.Proofs
end

section
/-! # PVSHIFT (44_phase_vocoder.md R182) -/

namespace Sys2Proof.Proofs

open Sys2Proof.Machine Sys2Proof.Safety

-- Proofs one after the other: each thread of the compiler counts against the check's memory limit.
set_option Elab.async false

section Shift

variable (s : State) (k : Nat)

theorem shiftTarget_nonneg (h : 0 ≤ s.parQ pPvRatio) : 0 ≤ shiftTarget s k := by
  have hprod : (0 : Int) ≤ k * s.parQ pPvRatio := by positivity
  rw [shiftTarget]
  omega

/-- What bin `k` adds to the magnitude in its destination. -/
def shiftedSum (j : Nat) : Int := (s.pv.smag.read 0 j).toInt + (s.pv.amag.read 0 k).toInt

/-- The scaled frequency of bin `k`. -/
def scaledFreq : Int := rnd 24 ((s.pv.afrq.read 0 k).toInt * s.parQ pPvRatio)

/-- Does the turn of bin `k` clip? -/
def shiftNote : Bool := decide (shiftTarget s k ≤ s.cfg.half) && clips (shiftedSum s k (shiftTarget s k).toNat)

theorem shiftBin_noted : Noted (shiftNote s k) s (shiftBin k s) := by
  unfold shiftBin shiftNote
  split
  · next h =>
    rw [decide_eq_true h, Bool.true_and]
    rfl
  · next h =>
    rw [decide_eq_false h, Bool.false_and]
    exact noted_of_flags_eq rfl

/-- The turn of bin `k` writes one destination bin, unless that is above H. -/
theorem shiftBin_reads (h : 0 ≤ shiftTarget s k) (j : Nat) :
    ((shiftBin k s).pv.smag.read 0 j =
      if j ≤ s.cfg.half ∧ shiftTarget s k = j then sat32 (shiftedSum s k j) else s.pv.smag.read 0 j) ∧
    (shiftBin k s).pv.sfrq.read 0 j =
      if j ≤ s.cfg.half ∧ shiftTarget s k = j then BitVec.ofInt 48 (scaledFreq s k) else s.pv.sfrq.read 0 j := by
  have hcast := Int.toNat_of_nonneg h
  unfold shiftBin
  split
  · next hle =>
    have hiff : (j = (shiftTarget s k).toNat) ↔ (j ≤ s.cfg.half ∧ shiftTarget s k = j) := by omega
    rw [State.noteSat_pv, Memory.read_write, Memory.read_write]
    exact ⟨ite_congr (propext hiff) (fun he => by rw [hiff.mpr he]; rfl) fun _ => rfl,
      ite_congr (propext hiff) (fun _ => rfl) fun _ => rfl⟩
  · next hgt =>
    rw [if_neg (by omega), if_neg (by omega)]
    exact ⟨rfl, rfl⟩

theorem clearedBins_reads (j : Nat) :
    ((iter k clearBin s).pv.smag.read 0 j = if j < k then 0 else s.pv.smag.read 0 j) ∧
    (iter k clearBin s).pv.sfrq.read 0 j = if j < k then 0 else s.pv.sfrq.read 0 j :=
  ⟨loop_writes (fun b : State => b.pv.smag.read 0) (fun _ => 0) k clearBin s (fun c _ j => by
      rw [clearBin, Memory.read_write]) j,
    loop_writes (fun b : State => b.pv.sfrq.read 0) (fun _ => 0) k clearBin s (fun c _ j => by
      rw [clearBin, Memory.read_write]) j⟩

/-- The state after the source bins below `k`. -/
def shiftedBins : State := iter k shiftBin (iter (s.cfg.half + 1) clearBin s)

theorem shiftedBins_succ : shiftedBins s (k + 1) = shiftBin k (shiftedBins s k) := rfl

/-- What the source bins do not change. -/
theorem shiftedBins_inputs : (shiftedBins s k).cfg = s.cfg ∧ (shiftedBins s k).parQ = s.parQ ∧
    (shiftedBins s k).pv.amag = s.pv.amag ∧ (shiftedBins s k).pv.afrq = s.pv.afrq := by
  have h : TouchesOnly .pvshift s (shiftedBins s k) := (clearBins_touchesOnly _ s).trans (.iter shiftBin_touchesOnly)
  exact ⟨h.field State.cfg fun _ _ => rfl, h.field State.parQ fun _ _ => rfl,
    h.field (fun q => q.pv.amag) fun _ _ => rfl, h.field (fun q => q.pv.afrq) fun _ _ => rfl⟩

theorem shiftedBins_turn : shiftTarget (shiftedBins s k) k = shiftTarget s k ∧
    scaledFreq (shiftedBins s k) k = scaledFreq s k := by
  obtain ⟨-, hpar, -, hfrq⟩ := shiftedBins_inputs s k
  exact ⟨by rw [shiftTarget, hpar, shiftTarget], by rw [scaledFreq, hpar, hfrq, scaledFreq]⟩

variable {s}

/-- After the source bins below `n`, every destination bin holds what those bins have collected there. -/
theorem shiftedBins_reads (h : 0 ≤ s.parQ pPvRatio) (n j : Nat) :
    (j ≤ s.cfg.half → (shiftedBins s n).pv.smag.read 0 j = shiftedMag s j n ∧
      (shiftedBins s n).pv.sfrq.read 0 j = shiftedFreq s j n) ∧
    (s.cfg.half < j → (shiftedBins s n).pv.smag.read 0 j = s.pv.smag.read 0 j ∧
      (shiftedBins s n).pv.sfrq.read 0 j = s.pv.sfrq.read 0 j) := by
  induction n with
  | zero =>
    obtain ⟨hmag, hfrq⟩ := clearedBins_reads s (s.cfg.half + 1) j
    refine ⟨fun hj => ?_, fun hj => ?_⟩
    · exact ⟨hmag.trans (if_pos (by omega)), hfrq.trans (if_pos (by omega))⟩
    · exact ⟨hmag.trans (if_neg (by omega)), hfrq.trans (if_neg (by omega))⟩
  | succ n ih =>
    obtain ⟨hcfg, -, hamag, -⟩ := shiftedBins_inputs s n
    obtain ⟨htarget, hscaled⟩ := shiftedBins_turn s n
    obtain ⟨hmag, hfrq⟩ := shiftBin_reads (shiftedBins s n) n (by rw [htarget]; exact shiftTarget_nonneg s n h) j
    rw [htarget, hcfg] at hmag hfrq
    rw [hscaled] at hfrq
    rw [shiftedBins_succ, hmag, hfrq]
    refine ⟨fun hj => ?_, fun hj => ?_⟩
    · obtain ⟨hm, hf⟩ := ih.1 hj
      have hsum : shiftedSum (shiftedBins s n) n j = (shiftedMag s j n).toInt + (s.pv.amag.read 0 n).toInt := by
        rw [shiftedSum, hm, hamag]
      rw [hsum, hm, hf]
      exact ⟨if_congr (and_iff_right hj) rfl rfl, if_congr (and_iff_right hj) rfl rfl⟩
    · obtain ⟨hm, hf⟩ := ih.2 hj
      rw [if_neg (by omega), if_neg (by omega)]
      exact ⟨hm, hf⟩

theorem shiftedBins_note (h : 0 ≤ s.parQ pPvRatio) : shiftNote (shiftedBins s k) k = true ↔
    ∃ j, j ≤ s.cfg.half ∧ shiftTarget s k = j ∧
      clips ((shiftedMag s j k).toInt + (s.pv.amag.read 0 k).toInt) = true := by
  obtain ⟨hcfg, -, hamag, -⟩ := shiftedBins_inputs s k
  obtain ⟨htarget, -⟩ := shiftedBins_turn s k
  have hcast := Int.toNat_of_nonneg (shiftTarget_nonneg s k h)
  have hsum : ∀ j, j ≤ s.cfg.half → shiftedSum (shiftedBins s k) k j =
      (shiftedMag s j k).toInt + (s.pv.amag.read 0 k).toInt := fun j hj => by
    rw [shiftedSum, ((shiftedBins_reads h k j).1 hj).1, hamag]
  rw [shiftNote, htarget, hcfg, Bool.and_eq_true, decide_eq_true_iff]
  constructor
  · rintro ⟨hle, hclip⟩
    have hj : (shiftTarget s k).toNat ≤ s.cfg.half := by omega
    exact ⟨_, hj, hcast.symm, by rw [← hsum _ hj]; exact hclip⟩
  · rintro ⟨j, hj, hk, hclip⟩
    rw [hk, Int.toNat_natCast, hsum j hj]
    exact ⟨by omega, hclip⟩

/-- The last source bin of a destination sets its frequency. -/
theorem shiftedFreq_last {j k n : Nat} (hk : k < n) (hj : shiftTarget s k = j)
    (hlast : ∀ m, k < m → m < n → shiftTarget s m ≠ j) : shiftedFreq s j n = BitVec.ofInt 48 (scaledFreq s k) := by
  induction n with
  | zero => exact absurd hk (Nat.not_lt_zero k)
  | succ n ih =>
    rw [shiftedFreq]
    by_cases hkn : k = n
    · subst hkn
      rw [if_pos hj]
      rfl
    · rw [if_neg (hlast n (by omega) (Nat.lt_succ_self n))]
      exact ih (by omega) fun m hm hmn => hlast m hm (by omega)

end Shift

/-- Settles O49. -/
theorem pvshiftAccumulatesIntoTheTargetBins : Obligations.PvshiftAccumulatesIntoTheTargetBins := by
  intro s hok hratio
  have hclear : Noted false s (iter (s.cfg.half + 1) clearBin s) :=
    noted_of_flags_eq (flags_iter (f := clearBin) s fun _ _ => rfl)
  have hnote : Noted ((List.range (s.cfg.half + 1)).any fun k => shiftNote (shiftedBins s k) k) s
      (shiftedBins s (s.cfg.half + 1)) :=
    (hclear.trans (Noted.iter fun k _ => shiftBin_noted (shiftedBins s k) k)).congr (Bool.false_or _)
  have heff : effect .pvshift s = shiftedBins s (s.cfg.half + 1) := rfl
  have hreads := shiftedBins_reads hratio (s.cfg.half + 1)
  refine ⟨_, exec_of_operands (i := .pvshift) trivial rfl (by simp), (effect_touchesOnly .pvshift s).complete,
    fun k => rfl, fun j hj => ?_, fun j k hj hk htarget hlast => ?_, fun j hj => ?_,
    by rw [heff]; exact errorBits_complete hnote.errorBits, ?_⟩
  · rw [State.complete_pv, heff]
    exact (hreads j).1 hj
  · intro f hlo hhi
    have hfreq : shiftedFreq s j (s.cfg.half + 1) = BitVec.ofInt 48 f :=
      shiftedFreq_last (Nat.lt_succ_of_le hk) htarget fun m hm hmn => hlast m hm (Nat.le_of_lt_succ hmn)
    rw [State.complete_pv, heff, ((hreads j).1 hj).2, hfreq]
    exact toInt_ofInt_freq hlo hhi
  · rw [State.complete_pv, heff]
    exact (hreads j).2 hj
  · rw [complete_sat, heff, hnote.sat, Bool.or_eq_true, any_range_iff]
    refine or_congr_right ⟨?_, ?_⟩
    · rintro ⟨k, hk, hn⟩
      obtain ⟨j, hj, htarget, hclip⟩ := (shiftedBins_note k hratio).mp hn
      exact ⟨j, k, hj, Nat.le_of_lt_succ hk, htarget, hclip⟩
    · rintro ⟨j, k, hj, hk, htarget, hclip⟩
      exact ⟨k, Nat.lt_succ_of_le hk, (shiftedBins_note k hratio).mpr ⟨j, hj, htarget, hclip⟩⟩

end Sys2Proof.Proofs
end

section
/-! # PSHBLK (44_phase_vocoder.md R188, R190) -/

namespace Sys2Proof.Proofs

open Sys2Proof.Machine Sys2Proof.Safety

-- Proofs one after the other: each thread of the compiler counts against the check's memory limit.
set_option Elab.async false

/-! ### One sample -/

section Sample

variable (ci co k : Nat) (s : State)

/-- The exact sum of sample `k` in the output channel. -/
def sampleSum : Int := (s.ybufAt (co * s.cfg.blockMax + k)).toInt + outSample s

/-- Sample `k` taken in and given out, with PVCNT set to `cnt`. -/
def fedState (cnt : Word) : State :=
  { s with
    pv := { s.pv with
      inf := s.pv.inf.write s.pv.cnt.toNat (s.xbufAt (ci * s.cfg.blockMax + k))
      mute := BitVec.ofNat 32 (s.pv.mute.toNat - 1)
      cnt := cnt }
    ybuf := s.ybuf.write (co * s.cfg.blockMax + k) (sat32 (sampleSum co k s))
    flags := if clips (sampleSum co k s) then s.flags ||| 1 else s.flags }

theorem accumY_eq (c i : Nat) (v : Int) : s.accumY c i v = { s with
    ybuf := s.ybuf.write (c * s.cfg.blockMax + i) (sat32 ((s.ybufAt (c * s.cfg.blockMax + i)).toInt + v))
    flags := s.flags |||
      (if clips ((s.ybufAt (c * s.cfg.blockMax + i)).toInt + v) then flagBit 0 else 0) } := by
  cases s
  rfl

theorem countMute_feedSample : countMute (feedSample ci k s) = { s with pv := { s.pv with
    inf := s.pv.inf.write s.pv.cnt.toNat (s.xbufAt (ci * s.cfg.blockMax + k))
    mute := BitVec.ofNat 32 (s.pv.mute.toNat - 1) } } := by
  rw [countMute_eq]
  rfl

theorem outSample_feedSample : outSample (feedSample ci k s) = outSample s := by
  cases s
  rfl

theorem ybufAt_withPv (p : PvState) (j : Nat) : ({ s with pv := p } : State).ybufAt j = s.ybufAt j := by
  cases s
  rfl

/-- The sample's turn before the FIFO advances. -/
theorem fedState_eq (cnt : Word) : fedState ci co k s cnt =
    (fun q : State => { q with pv := { q.pv with cnt := cnt } })
      ((countMute (feedSample ci k s)).accumY co k (outSample (feedSample ci k s))) := by
  have hflags : (if clips (sampleSum co k s) then s.flags ||| 1 else s.flags) =
      s.flags ||| (if clips (sampleSum co k s) then flagBit 0 else 0) := by
    split
    · rfl
    · exact BitVec.or_zero.symm
  rw [fedState, hflags, outSample_feedSample, countMute_feedSample, accumY_eq, ybufAt_withPv]
  rfl

/-- A sample, and the frame that follows the one that fills the FIFO. -/
theorem pitchSample_eq : pitchSample ci co k s =
    if s.pv.cnt.toNat + 1 = s.cfg.pvN then vocoderFrame (fedState ci co k s (BitVec.ofNat 32 s.cfg.pvL))
    else fedState ci co k s (s.pv.cnt + 1) := by
  have hfed : ((countMute (feedSample ci k s)).accumY co k (outSample (feedSample ci k s))).pv.cnt = s.pv.cnt ∧
      ((countMute (feedSample ci k s)).accumY co k (outSample (feedSample ci k s))).cfg = s.cfg := by
    rw [countMute_feedSample, accumY_eq]
    exact ⟨rfl, rfl⟩
  rw [fedState_eq, fedState_eq]
  unfold pitchSample advanceFifo
  dsimp only
  rw [hfed.1, hfed.2]

theorem fedState_complete (cnt : Word) :
    fedState ci co k s.complete cnt = (fedState ci co k s cnt).complete := by
  cases s
  rfl

theorem fedState_noted (cnt : Word) : Noted (clips (sampleSum co k s)) s (fedState ci co k s cnt) := by
  unfold Noted fedState
  split
  · rfl
  · exact BitVec.or_zero.symm

theorem ybufAt_pitchSample (j : Nat) : (pitchSample ci co k s).ybufAt j =
    if j = co * s.cfg.blockMax + k then sat32 ((s.ybufAt j).toInt + outSample s) else s.ybufAt j := by
  have hep : (pitchSample ci co k s).epoch = s.epoch :=
    (pitchSample_touchesOnly ci co k s).field State.epoch fun _ _ => rfl
  have hy : (pitchSample ci co k s).ybuf =
      s.ybuf.write (co * s.cfg.blockMax + k) (sat32 (sampleSum co k s)) := by
    rw [pitchSample_eq]
    split
    · exact (vocoderFrame_frameOnly (fedState ci co k s (BitVec.ofNat 32 s.cfg.pvL))).field State.ybuf fun _ _ => rfl
    · rfl
  rw [State.ybufAt, hep, hy, Memory.read_write]
  exact ite_congr rfl (fun h => by rw [sampleSum, h]) fun _ => rfl

end Sample

theorem cfg_pitchSamples (ci co n : Nat) (s : State) : (iter n (pitchSample ci co) s).cfg = s.cfg :=
  (TouchesOnly.iter (i := .pshblk 0 0 0) (pitchSample_touchesOnly ci co)).field State.cfg fun _ _ => rfl

theorem xbufAt_pitchSamples (ci co n : Nat) (s : State) : (iter n (pitchSample ci co) s).xbufAt = s.xbufAt :=
  (TouchesOnly.iter (i := .pshblk 0 0 0) (pitchSample_touchesOnly ci co)).field State.xbufAt fun _ _ => rfl

theorem mute_pitchSamples (ci co n : Nat) (s : State) :
    (iter n (pitchSample ci co) s).pv.mute.toNat = s.pv.mute.toNat - n := by
  induction n with
  | zero => rfl
  | succ n ih =>
    have hlt := s.pv.mute.isLt
    rw [iter_succ, (pitchSample_counters ci co n _).1, ih, BitVec.toNat_ofNat]
    omega

/-! ### The silence of the first outputs -/

/-- While PVMUTE lasts, a sample adds nothing. -/
theorem ybufAt_pitchSample_muted {ci co k : Nat} {s : State} (h : 0 < s.pv.mute.toNat) (j : Nat) :
    (pitchSample ci co k s).ybufAt j = s.ybufAt j := by
  rw [ybufAt_pitchSample, outSample, if_pos h, Int.add_zero, sat32_toInt_word, ite_self]

theorem ybufAt_pitchSamples_muted {ci co n j : Nat} {s : State}
    (hj : ∀ k, s.pv.mute.toNat ≤ k → k < n → j ≠ co * s.cfg.blockMax + k) :
    (iter n (pitchSample ci co) s).ybufAt j = s.ybufAt j := by
  induction n with
  | zero => rw [iter_zero]
  | succ n ih =>
    have hn := ih fun k hlo hhi => hj k hlo (Nat.lt_succ_of_lt hhi)
    have hmute := mute_pitchSamples ci co n s
    rw [iter_succ]
    by_cases h : n < s.pv.mute.toNat
    · rw [ybufAt_pitchSample_muted (by omega), hn]
    · rw [ybufAt_pitchSample, cfg_pitchSamples, if_neg (hj n (by omega) (Nat.lt_succ_self n)), hn]

/-- Settles O54. -/
theorem theFirstFifoLatencyOutputsAreSilent : Obligations.TheFirstFifoLatencyOutputsAreSilent := by
  refine ⟨fun s hok => ⟨_, exec_of_operands (i := .init) trivial rfl (by simp), ?_⟩, fun ci co n s _ ho =>
    ⟨_, exec_of_operands ho rfl (by simp), mute_pitchSamples ci co n s, fun j hj => ybufAt_pitchSamples_muted hj⟩⟩
  obtain ⟨-, -, -, hN⟩ := pvL_lt hok
  exact Nat.mod_eq_of_lt (show s.cfg.pvN < 2 ^ 32 by omega)

/-! ### A block that does not fill the FIFO -/

/-- From `s` to `t` nothing changes but the input FIFO, the two counters, YBUF and FLAGS. -/
def FifoOnly (s t : State) : Prop :=
  t = { s with
    pv := { s.pv with cnt := t.pv.cnt, mute := t.pv.mute, inf := t.pv.inf }
    ybuf := t.ybuf
    flags := t.flags }

theorem FifoOnly.trans {s t u : State} (h : FifoOnly s t) (g : FifoOnly t u) : FifoOnly s u := by
  rw [FifoOnly] at h g ⊢
  rw [g, h]

theorem fedState_fifoOnly (ci co k : Nat) (s : State) (cnt : Word) : FifoOnly s (fedState ci co k s cnt) := rfl

section Quiet

variable {ci co n : Nat} {s : State} (hN : s.cfg.pvN ≤ 2 ^ 15) (hn : s.pv.cnt.toNat + n < s.cfg.pvN)

include hN hn

/-- The block's first `k` samples leave the FIFO open. -/
theorem quiet_samples {k : Nat} (hk : k ≤ n) : FifoOnly s (iter k (pitchSample ci co) s) ∧
    (iter k (pitchSample ci co) s).pv.cnt.toNat = s.pv.cnt.toNat + k := by
  induction k with
  | zero => exact ⟨rfl, rfl⟩
  | succ k ih =>
    obtain ⟨hfr, hcnt⟩ := ih (by omega)
    have hopen : ¬ (iter k (pitchSample ci co) s).pv.cnt.toNat + 1 = (iter k (pitchSample ci co) s).cfg.pvN := by
      rw [hcnt, cfg_pitchSamples]
      omega
    rw [iter_succ, pitchSample_eq, if_neg hopen]
    refine ⟨hfr.trans (fedState_fifoOnly ci co k _ _), ?_⟩
    have hsucc : ((iter k (pitchSample ci co) s).pv.cnt + 1).toNat =
        (iter k (pitchSample ci co) s).pv.cnt.toNat + 1 := by
      have hlt : (iter k (pitchSample ci co) s).pv.cnt.toNat < 2 ^ 15 := by omega
      bv_omega
    rw [hcnt] at hsucc
    exact hsucc

theorem quiet_turn {k : Nat} (hk : k < n) : pitchSample ci co k (iter k (pitchSample ci co) s) =
    fedState ci co k (iter k (pitchSample ci co) s) ((iter k (pitchSample ci co) s).pv.cnt + 1) := by
  obtain ⟨-, hcnt⟩ := quiet_samples (ci := ci) (co := co) hN hn (Nat.le_of_lt hk)
  rw [pitchSample_eq, if_neg (by rw [hcnt, cfg_pitchSamples]; omega)]

end Quiet

/-- Settles O52. -/
theorem pshblkStreamsThroughTheFifos : Obligations.PshblkStreamsThroughTheFifos := by
  intro ci co n s _ ho hok _ hn word y sum
  obtain ⟨-, -, -, hN⟩ := pvL_lt hok
  have hturn := fun k (hk : k < n) => quiet_turn (ci := ci) (co := co) hN hn hk
  obtain ⟨hfr, hcnt⟩ := quiet_samples (ci := ci) (co := co) hN hn (Nat.le_refl n)
  have hout : ∀ k, k < n → outSample (iter k (pitchSample ci co) s) = y k := fun k hk => by
    obtain ⟨hfr, hcnt⟩ := quiet_samples (ci := ci) (co := co) hN hn (Nat.le_of_lt hk)
    have houtf : (iter k (pitchSample ci co) s).pv.outf = s.pv.outf := by rw [hfr]
    rw [outSample, mute_pitchSamples, houtf, hcnt, cfg_pitchSamples]
    exact if_congr (show 0 < s.pv.mute.toNat - k ↔ k < s.pv.mute.toNat by omega) rfl rfl
  have hy := loop_updates_all State.ybufAt word (fun k w => sat32 (w.toInt + y k)) n (pitchSample ci co) s
    (fun c d _ _ h => Nat.add_left_cancel h) fun k hk j => by
      rw [ybufAt_pitchSample, hout k hk, cfg_pitchSamples]
  have hinf := loop_updates_all (fun b : State => b.pv.inf.read 0) (fun k => s.pv.cnt.toNat + k)
    (fun k _ => s.xbufAt (ci * s.cfg.blockMax + k)) n (pitchSample ci co) s
    (fun c d _ _ h => Nat.add_left_cancel h) fun k hk j => by
      obtain ⟨-, hcnt⟩ := quiet_samples (ci := ci) (co := co) hN hn (Nat.le_of_lt hk)
      rw [hturn k hk, fedState, Memory.read_write, hcnt, xbufAt_pitchSamples, cfg_pitchSamples]
  have hnote : Noted ((List.range n).any fun k => clips (sum k)) s (iter n (pitchSample ci co) s) :=
    Noted.iter fun k hk => by
      have hword := (loop_updates_all State.ybufAt word (fun k w => sat32 (w.toInt + y k)) k (pitchSample ci co) s
        (fun c d _ _ h => Nat.add_left_cancel h) fun m hm j => by
          rw [ybufAt_pitchSample, hout m (by omega), cfg_pitchSamples]).2 (word k) fun c hc he =>
            absurd (Nat.add_left_cancel he) (Nat.ne_of_gt hc)
      rw [hturn k hk]
      refine (fedState_noted ci co k _ _).congr ?_
      rw [sampleSum, hout k hk, cfg_pitchSamples]
      exact congrArg (fun w : Word => clips (w.toInt + y k)) hword
  refine ⟨_, exec_of_operands ho rfl (by simp), congrArg State.complete hfr, hcnt, mute_pitchSamples ci co n s,
    hinf.1, fun j hj => hinf.2 j fun c hc he => ?_, hy.1, hy.2, errorBits_complete hnote.errorBits, ?_⟩
  · omega
  · rw [complete_sat, effect, hnote.sat, Bool.or_eq_true, any_range_iff]

end Sys2Proof.Proofs
end

section
/-! # The frame of PSHBLK is the seven step commands (44_phase_vocoder.md R170, R188) -/

namespace Sys2Proof.Proofs

open Sys2Proof.Machine Sys2Proof.Safety

-- Proofs one after the other: each thread of the compiler counts against the check's memory limit.
set_option Elab.async false

/-! ### The frame's steps do not look at the command's progress -/

theorem complete_complete (s : State) : s.complete.complete = s.complete := rfl

theorem windowFrame_complete (s : State) : windowFrame s.complete = (windowFrame s).complete := by
  rw [windowFrame, windowFrame, State.complete_cfg]
  exact iter_comm State.complete _ _ s fun _ b => by
    cases b
    rfl

theorem bitRevSwap_complete (k : Nat) (s : State) : bitRevSwap k s.complete = (bitRevSwap k s).complete := by
  unfold bitRevSwap
  rw [State.complete_cfg]
  dsimp only
  split <;> rfl

theorem fftRun_complete (inv : Bool) (s : State) : fftRun inv s.complete = (fftRun inv s).complete := by
  have hrev : bitReversal s.complete = (bitReversal s).complete := by
    rw [bitReversal, bitReversal, State.complete_cfg]
    exact iter_comm State.complete _ _ s fun k b => bitRevSwap_complete k b
  rw [fftRun_eq, fftRun_eq, hrev, State.complete_cfg]
  exact iter_comm State.complete _ _ _ fun st b => stageLoop_complete _ inv st b

theorem analyseFrame_complete (s : State) : analyseFrame s.complete = (analyseFrame s).complete := by
  rw [analyseFrame, analyseFrame, State.complete_cfg]
  exact iter_comm State.complete _ _ s fun _ b => by
    cases b
    rfl

theorem shiftBin_complete (k : Nat) (s : State) : shiftBin k s.complete = (shiftBin k s).complete := by
  have htarget : shiftTarget s.complete k = shiftTarget s k := rfl
  unfold shiftBin
  rw [htarget, State.complete_cfg]
  split <;> rfl

theorem shiftFrame_complete (s : State) : shiftFrame s.complete = (shiftFrame s).complete := by
  have hclear : ∀ n, iter n clearBin s.complete = (iter n clearBin s).complete := fun n =>
    iter_comm State.complete n _ s fun _ _ => rfl
  rw [shiftFrame, shiftFrame, State.complete_cfg, hclear]
  exact iter_comm State.complete _ _ _ shiftBin_complete

theorem synthFrame_complete (s : State) : synthFrame s.complete = (synthFrame s).complete := by
  have hsynth : ∀ n, iter n synthBin s.complete = (iter n synthBin s).complete := fun n =>
    iter_comm State.complete n _ s fun _ b => by
      cases b
      rfl
  rw [synthFrame, synthFrame, State.complete_cfg, hsynth]
  exact iter_comm State.complete _ _ _ fun _ _ => rfl

theorem overlapFrame_complete (s : State) : overlapFrame s.complete = (overlapFrame s).complete := by
  have h1 : ∀ n b, iter n overlapBin (State.complete b) = (iter n overlapBin b).complete := fun n b =>
    iter_comm State.complete n _ b fun _ c => by
      cases c
      rfl
  have h2 : ∀ n b, iter n emitBin (State.complete b) = (iter n emitBin b).complete := fun n b =>
    iter_comm State.complete n _ b fun _ _ => rfl
  have h3 : ∀ n b, iter n shiftAccBin (State.complete b) = (iter n shiftAccBin b).complete := fun n b =>
    iter_comm State.complete n _ b fun _ _ => rfl
  have h4 : ∀ n b, iter n clearAccBin (State.complete b) = (iter n clearAccBin b).complete := fun n b =>
    iter_comm State.complete n _ b fun _ _ => rfl
  have h5 : ∀ n b, iter n shiftInBin (State.complete b) = (iter n shiftInBin b).complete := fun n b =>
    iter_comm State.complete n _ b fun _ _ => rfl
  rw [overlapFrame, overlapFrame, State.complete_cfg, h1, h2, h3, h4, h5]

/-! ### The host's sequence -/

/-- A command issued where another has completed, when its effect does not look at the command's progress. -/
theorem exec_after {i : Instr} {u : State} (ho : operandsExist i u.complete) (hc : checksDevice i = false)
    (hd : i ≠ .devupd) (hcomm : effect i u.complete = (effect i u).complete) :
    exec i u.complete = .next (effect i u).complete := by
  rw [exec_of_operands ho hc hd, hcomm, complete_complete]

/-- The seven commands, one after the other, are one frame. -/
theorem exec_frame (u : State) : ∃ t1 t2 t3 t4 t5 t6, exec .pvwin u.complete = .next t1 ∧ exec (.fft 0) t1 = .next t2 ∧
    exec .pvana t2 = .next t3 ∧ exec .pvshift t3 = .next t4 ∧ exec .pvsyn t4 = .next t5 ∧
    exec (.fft 1) t5 = .next t6 ∧ exec .pvola t6 = .next (vocoderFrame u).complete := by
  have hwin := exec_after (i := .pvwin) (u := u) trivial rfl (by simp) (windowFrame_complete u)
  rw [effect] at hwin
  have hfft := exec_after (i := .fft 0) (u := windowFrame u) (Nat.zero_le 1) rfl (by simp) (fftRun_complete false _)
  have hana := exec_after (i := .pvana) (u := fftRun false (windowFrame u)) trivial rfl (by simp)
    (analyseFrame_complete _)
  have hshift := exec_after (i := .pvshift) (u := analyseFrame (fftRun false (windowFrame u))) trivial rfl (by simp)
    (shiftFrame_complete _)
  have hsyn := exec_after (i := .pvsyn) (u := shiftFrame (analyseFrame (fftRun false (windowFrame u)))) trivial rfl
    (by simp) (synthFrame_complete _)
  have hback := exec_after (i := .fft 1) (u := synthFrame (shiftFrame (analyseFrame (fftRun false (windowFrame u)))))
    (Nat.le_refl 1) rfl (by simp) (fftRun_complete true _)
  have hola := exec_after (i := .pvola)
    (u := fftRun true (synthFrame (shiftFrame (analyseFrame (fftRun false (windowFrame u)))))) trivial rfl (by simp)
    (overlapFrame_complete _)
  exact ⟨_, _, _, _, _, _, hwin, hfft, hana, hshift, hsyn, hback, hola⟩

/-- Settles O53. -/
theorem pshblkFrameIsTheSevenStepCommands : Obligations.PshblkFrameIsTheSevenStepCommands := by
  intro ci co n s a ho hok ha out full y sum fed
  obtain ⟨hci, hco, hn⟩ := id ho
  have hblock : exec (.pshblk ci co n) s = .next (effect (.pshblk ci co n) s).complete :=
    exec_of_operands (i := .pshblk ci co n) ⟨hci, hco, by omega⟩ rfl (by simp)
  have hnext : exec (.pshblk ci co (n + 1)) s = .next (effect (.pshblk ci co (n + 1)) s).complete :=
    exec_of_operands ho rfl (by simp)
  have ha' : a = (iter n (pitchSample ci co) s).complete := by
    rw [ha] at hblock
    injection hblock
  have hturn : effect (.pshblk ci co (n + 1)) s = pitchSample ci co n (iter n (pitchSample ci co) s) := rfl
  have hcfg := cfg_pitchSamples ci co n s
  have hxbuf := xbufAt_pitchSamples ci co n s
  have hnone : n = 0 → a = { s with cmdok := true, running := none } := fun h => by
    rw [ha', h]
    rfl
  rw [hturn] at hnext
  generalize iter n (pitchSample ci co) s = b at ha' hnext hcfg hxbuf
  have hcnt : a.pv.cnt = b.pv.cnt := by rw [ha', State.complete_pv]
  have hacfg : a.cfg = s.cfg := by rw [ha', State.complete_cfg, hcfg]
  have haxbuf : a.xbufAt = s.xbufAt := by
    rw [ha', ← hxbuf]
    rfl
  have hfed : ∀ c, fed c = (fedState ci co n b c).complete := fun c => by
    have hin : ci * a.cfg.blockMax + n = ci * s.cfg.blockMax + n := by rw [hacfg]
    have hout : co * a.cfg.blockMax + n = out := by rw [hacfg]
    have hsum : sampleSum co n a = sum := by
      rw [sampleSum, outSample, hacfg]
      rfl
    rw [← fedState_complete, ← ha', fedState, hsum, haxbuf, hin, hout]
  refine ⟨hnone, fun hopen => ?_, fun hfull => ?_⟩
  · have hopen' : ¬ b.pv.cnt.toNat + 1 = b.cfg.pvN := by
      rw [hcfg, ← hcnt]
      exact hopen
    rw [hnext, pitchSample_eq, if_neg hopen', hfed, hcnt]
  · have hfull' : b.pv.cnt.toNat + 1 = b.cfg.pvN := by
      rw [hcfg, ← hcnt]
      exact hfull
    obtain ⟨t1, t2, t3, t4, t5, t6, h1, h2, h3, h4, h5, h6, h7⟩ :=
      exec_frame (fedState ci co n b (BitVec.ofNat 32 s.cfg.pvL))
    rw [← hfed] at h1
    refine ⟨t1, t2, t3, t4, t5, t6, _, h1, h2, h3, h4, h5, h6, h7, ?_⟩
    rw [hnext, pitchSample_eq, if_pos hfull', hcfg]

end Sys2Proof.Proofs
end
